-- ==== Sys2Proof/Word.lean ====
section
/-! DEFINITION. The words the manual counts and sends in: octets, 16-bit fields, the 320 payload bits of a cell, the 256
data bits of a request or reply, and the two helpers every block shares (a saturating count, a fixed array changed at
every place). -/

namespace Sys2Proof

/-- One octet of a cell. -/
abbrev Octet := BitVec 8

/-- A 16-bit field: cycle numbers, epochs, counters, details. -/
abbrev Word16 := BitVec 16

/-- The 40 payload octets of a cell, octet 0 in the most significant place (R188: fields most significant octet first). -/
abbrev Payload := BitVec 320

/-- The 32 octets of a request's or a reply's data area, octet 0 in the most significant place (R188). -/
abbrev DataArea := BitVec 256

/-- A stream identifier, 0..4095. -/
abbrev StreamId := BitVec 12

/-- A release tag, 0..63. -/
abbrev Tag := BitVec 6

/-- The index of a stream record, 0..255. -/
abbrev RecordIndex := BitVec 8

/-- A manager, 0..3. -/
abbrev Manager := BitVec 2

/-- A node address, 0..127. -/
abbrev Address := BitVec 7

/-- A count advanced by 1 that stays at its largest value (R33, R143: 65535; R90, R153: 255). -/
def saturate {w : Nat} (c : BitVec w) : BitVec w := if c = BitVec.allOnes w then c else c + 1

/-- A count advanced `n` times. -/
def saturateBy {w : Nat} (c : BitVec w) : Nat → BitVec w
  | 0 => c
  | n + 1 => saturateBy (saturate c) n

/-- The array with every place changed by `f`. -/
def mapAll {α β : Type} {n : Nat} (f : α → β) (v : Vector α n) : Vector β n :=
  ⟨⟨v.toArray.toList.map f⟩, by simp⟩

end Sys2Proof
end

