-- ==== Sys2Proof/Syntax.lean ====
section
/-! DEFINITION. The commands: one constructor of `Instr` for each row of spec/opcode_table.json. A command is one
happening of 00_scope section 4.4. An outside happening carries `dt`, the ticks since the happening before it; a
happening of the gate's own clock carries no tick, since the spec computes the tick it falls on. -/

namespace Sys2Proof

/-- The two input sides (R134). -/
inductive Side where
  | uIn | dIn
deriving DecidableEq, Repr

/-- A cell of 46 octets: 4 header octets, 40 payload octets, 2 check octets (12_cell_and_payload_formats), the first
octet of each part in its most significant place. -/
structure Cell where
  header : BitVec 32
  payload : Payload
  check : BitVec 16
deriving DecidableEq, Repr

/-- The twelve item classes (R163, R188). -/
inductive ItemClass where
  | ident | status | settings | port | map | recordConfig | recordStatus | recordCounters
  | activeSlot | shadowSlot | bankLength | line
deriving DecidableEq, Repr

/-- The fields of a REQ cell that its sender chooses, besides the operation and the class or code, which the command's
own row gives (R188): destination address, manager, tag, epoch, first index, count and the 32 octets of the data area. -/
structure Request where
  dest : Address
  manager : Manager
  tag : Octet
  epoch : Word16
  first : Word16
  count : Octet
  data : DataArea
deriving DecidableEq, Repr

/-- The commands of spec/opcode_table.json. -/
inductive Instr where
  /-- POWER_ON (R11): `straps` are the levels on the strap pins at the end of power-on reset (R135). -/
  | powerOn (dt : Nat) (straps : Address)
  /-- RESET_PIN_ASSERT (R97). -/
  | resetPinAssert (dt : Nat)
  /-- RESET_PIN_RELEASE (R11): the straps are sampled at it (R135). -/
  | resetPinRelease (dt : Nat) (straps : Address)
  /-- CELL_ARRIVAL (R137): any cell, good or bad. `straps` are read only when the cell is a RESET_FULL request that is
  taken (R135). -/
  | cellArrival (dt : Nat) (side : Side) (cell : Cell) (straps : Address)
  /-- CELL_CUT_SHORT (R136). -/
  | cellCutShort (dt : Nat) (side : Side)
  /-- LOSS_TIMER_EXPIRY (R141). -/
  | lossTimerExpiry (side : Side)
  /-- DATA_ARRIVAL (R16): a good DATA cell on U-in. -/
  | dataArrival (dt : Nat) (cell : Cell)
  /-- SYNC_ARRIVAL (R117): a good SYNC cell on U-in with this cycle number. -/
  | syncArrival (dt : Nat) (number : Word16)
  /-- D_IN_ARRIVAL (R140): a good DATA, REP, EVT, REQ or SYNC cell on D-in. -/
  | dInArrival (dt : Nat) (cell : Cell)
  /-- READ (R168) of a class. -/
  | read (dt : Nat) (cls : ItemClass) (q : Request)
  /-- WRITE (R163) of a read-only class. -/
  | write (dt : Nat) (cls : ItemClass) (q : Request)
  /-- WRITE_MAP (R17). -/
  | writeMap (dt : Nat) (q : Request)
  /-- WRITE_RECORD_CONFIG (R20). -/
  | writeRecordConfig (dt : Nat) (q : Request)
  /-- WRITE_SHADOW_SLOT (R60). -/
  | writeShadowSlot (dt : Nat) (q : Request)
  /-- WRITE_BANK_LENGTH (R61). -/
  | writeBankLength (dt : Nat) (q : Request)
  /-- WRITE_LINE (R103). -/
  | writeLine (dt : Nat) (q : Request)
  /-- WRITE_SETTINGS (R170). -/
  | writeSettings (dt : Nat) (q : Request)
  /-- FILL (R23). -/
  | fill (dt : Nat) (q : Request)
  /-- START (R24). -/
  | start (dt : Nat) (q : Request)
  /-- PAUSE (R25). -/
  | pause (dt : Nat) (q : Request)
  /-- RESUME (R25). -/
  | resume (dt : Nat) (q : Request)
  /-- STOP (R26). -/
  | stop (dt : Nat) (q : Request)
  /-- RELEASE (R27) of a record. -/
  | release (dt : Nat) (q : Request)
  /-- CLEAR_COUNTERS (R28). -/
  | clearCounters (dt : Nat) (q : Request)
  /-- COPY (R62). -/
  | copy (dt : Nat) (q : Request)
  /-- COPY_STEP (R63), one of steps 1..63. -/
  | copyStep
  /-- COPY_COMPLETION (R63), step 64. -/
  | copyCompletion
  /-- SWAP (R66). -/
  | swap (dt : Nat) (q : Request)
  /-- SWAP_AT (R67): the cycle number stands in data octets 0..1 (R188). -/
  | swapAt (dt : Nat) (q : Request)
  /-- SWAP_CANCEL (R71). -/
  | swapCancel (dt : Nat) (q : Request)
  /-- RESTART_LOCK (R129). -/
  | restartLock (dt : Nat) (q : Request)
  /-- CLEAR_PORT_COUNTERS (R144). -/
  | clearPortCounters (dt : Nat) (q : Request)
  /-- RESET_SOFT (R172). -/
  | resetSoft (dt : Nat) (q : Request)
  /-- RESET_FULL (R173): the straps are sampled at it (R135). -/
  | resetFull (dt : Nat) (q : Request) (straps : Address)
  /-- ACQUIRE (R179). -/
  | acquire (dt : Nat) (q : Request)
  /-- RENEW (R180). -/
  | renew (dt : Nat) (q : Request)
  /-- LEASE_RELEASE (R181). -/
  | leaseRelease (dt : Nat) (q : Request)
  /-- CLAIM (R182). -/
  | claim (dt : Nat) (q : Request)
  /-- LEASE_UNIT_STEP (R176), a step that leaves the countdown above 0. -/
  | leaseUnitStep
  /-- LEASE_EXPIRY (R183), the step that brings the countdown to 0. -/
  | leaseExpiry
  /-- CYCLE_BOUNDARY (R7). -/
  | cycleBoundary
  /-- SLOT_START (R82), of one of slots 1..N-1. -/
  | slotStart
  /-- GUARD_START (R2). -/
  | guardStart
  /-- CELL_TIME_START (R149). -/
  | cellTimeStart
  /-- SYNC_WINDOW_OPEN (R116). -/
  | syncWindowOpen
  /-- SYNC_WINDOW_END (R116). -/
  | syncWindowEnd
deriving DecidableEq, Repr

end Sys2Proof
end

