-- ==== Sys2Proof/Config.lean ====
section
/-! DEFINITION. The numbers that are fixed for the part: capacities, intervals, limits and the IDENT codes. The spec leaves
no result value open, so no constant here is without a body. -/

namespace Sys2Proof.Config

/-- Ticks of one cell time and of one slot (R1). -/
def cellTime : Nat := 512

/-- Slots of the idle cycle (R3). -/
def idleLength : Nat := 256

/-- The shortest and longest valid bank (R56). -/
def minLength : Nat := 8
/-- See `minLength`. -/
def maxLength : Nat := 1024

/-- Cell buffers of the pool (R39). -/
def poolSize : Nat := 384

/-- Cells the Pass Queue holds (R51). -/
def passLimit : Nat := 48

/-- Cells the Through FIFO holds (R147). -/
def throughLimit : Nat := 32

/-- Records the Reply Queue holds (R152). -/
def replyLimit : Nat := 16

/-- Entries the Event Queue holds (R153). -/
def eventLimit : Nat := 32

/-- Entries one EVT cell carries (R155). -/
def eventsPerCell : Nat := 4

/-- The largest trim, either way (R5). -/
def trimLimit : Int := 64

/-- Acquisition threshold and excursion limit (R115: both fixed at 3). -/
def lockThreshold : Nat := 3

/-- Ticks without a valid arrival after which a side goes DOWN: 16 cell times (R141). -/
def lossTicks : Nat := 8192

/-- Ticks between two copy steps (R63). -/
def copyStepTicks : Nat := 512

/-- Entries one copy step writes, and the number of steps (R63). -/
def copyStepEntries : Nat := 16
/-- See `copyStepEntries`. -/
def copySteps : Nat := 64

/-- Ticks of one lease unit (R176). -/
def leaseUnit : Nat := 524288

/-- The broadcast destination (R139, R164). -/
def broadcast : Address := 127#7

/-- IDENT: vendor code, part code, revision (R188). -/
def vendorCode : Word16 := 0x0A31#16
/-- See `vendorCode`. -/
def partCode : Word16 := 0x0614#16
/-- See `vendorCode`. -/
def revision : Octet := 0x01#8

/-- IDENT: the ten capacities in the order of R168. -/
def capacities : List Word16 := [4096, 256, 384, 1024, 8, 4, 48, 32, 16, 32]

end Sys2Proof.Config
end

