-- ==== Sys2Proof/Machine/State.lean ====
section
/-! DEFINITION. The state of the gate, block by block, as plain data, and its value right after reset. -/

namespace Sys2Proof.Machine

/-! ### Cycle Timer (01) -/

/-- Where the cycle stands (R2). -/
inductive Position where
  | slot (k : Nat) | guard
deriving DecidableEq, Repr

/-- The Cycle Timer's items (01, section 1.1). The guard setting G has its one home in `Settings`. -/
structure Timer where
  /-- cycle number -/
  number : Word16
  /-- cycle length N in slots -/
  length : Nat
  position : Position
  /-- the tick of the current cycle's boundary; the elapsed ticks are the ticks since it -/
  start : Nat
  guardBase : Nat
  /-- current trim -/
  trim : Int
  nextTrim : Option Int
  nextNumber : Option Word16
  /-- boundary placement: the tick at which the current cycle ends -/
  placement : Option Nat
deriving DecidableEq, Repr

/-! ### Stream Map and Stream Table (02) -/

/-- A map entry (R15). -/
inductive MapEntry where
  | pass | drop | bound (r : RecordIndex)
deriving DecidableEq, Repr

/-- The states of a stream record (R19). -/
inductive RecordState where
  | unused | idle | filling | starting | running | paused | faulted
deriving DecidableEq, Repr

/-- DOWNSTREAM, LOCAL, BOTH (R94). -/
inductive Delivery where
  | downstream | localOnly | both
deriving DecidableEq, Repr

/-- DROP_NEW, DROP_OLDEST (R44). -/
inductive OverflowPolicy where
  | dropNew | dropOldest
deriving DecidableEq, Repr

/-- IDLE, REPEAT, YIELD (R91). -/
inductive MissPolicy where
  | idleCell | repeatLast | yieldSlot
deriving DecidableEq, Repr

/-- The six configuration fields of a record (R19). -/
structure RecordConfig where
  delivery : Delivery
  depthLimit : Nat
  overflow : OverflowPolicy
  missPolicy : MissPolicy
  faultThreshold : BitVec 8
  retag : BitVec 5
deriving DecidableEq, Repr

/-- The last value of a record (R35); the tag is the tag as sent. -/
structure LastValue where
  payload : Payload
  stream : StreamId
  tag : Tag
deriving DecidableEq, Repr

/-- The six counters of a record (R33). -/
structure RecordCounters where
  released : Word16
  repeated : Word16
  missed : Word16
  early : Word16
  late : Word16
  refused : Word16
deriving DecidableEq, Repr

/-- A stream record (R19). -/
structure Record where
  state : RecordState
  /-- bound identifier -/
  bound : Option StreamId
  config : RecordConfig
  /-- consecutive misses -/
  misses : BitVec 8
  lastValue : Option LastValue
  /-- held cells, oldest first -/
  queue : List Cell
  counters : RecordCounters
deriving DecidableEq, Repr

/-! ### Schedule Banks (04) -/

/-- A slot entry (R56). -/
inductive SlotEntry where
  | quiet | openSlot | stream (r : RecordIndex)
deriving DecidableEq, Repr

/-- A schedule bank (R56): length 0 is invalid. -/
structure Bank where
  length : Nat
  entries : Vector SlotEntry 1024
deriving DecidableEq, Repr

/-- The number of a bank (R57). -/
inductive BankNumber where
  | zero | one
deriving DecidableEq, Repr

/-- The target of an accepted swap (R66). -/
inductive SwapTarget where
  | nextBoundary | cycle (c : Word16)
deriving DecidableEq, Repr

/-- The shadow condition with the work it stands for (R58): a copy in flight, with the tick it was taken at and the steps
already made (R63), or a pending swap with its target (R66). -/
inductive ShadowCondition where
  | free | copying (takenAt stepsDone : Nat) | swapPending (target : SwapTarget)
deriving DecidableEq, Repr

/-- The two banks, held by role (R57, log 11), with the number of the ACTIVE one. -/
structure Banks where
  active : Bank
  shadow : Bank
  activeNumber : BankNumber
  condition : ShadowCondition
deriving DecidableEq, Repr

/-! ### Release Engine (05) -/

/-- The engine state (R77). -/
inductive EngineState where
  | halted | running
deriving DecidableEq, Repr

/-- Where the cell in flight on D-out came from (R77). -/
inductive FlightSource where
  | engine | record (r : RecordIndex) | passQueue
deriving DecidableEq, Repr

/-- The cell in flight on D-out; `buffered` when it holds a buffer of the pool (R48, R77). -/
structure Flight where
  cell : Cell
  source : FlightSource
  buffered : Bool
deriving DecidableEq, Repr

/-! ### Output Lines (06) -/

/-- A pin or line level. -/
inductive Level where
  | low | high
deriving DecidableEq, Repr

/-- The polarity of a line (R101). -/
inductive Polarity where
  | direct | inverted
deriving DecidableEq, Repr

/-- The state of a line (R101). -/
inductive LineState where
  | disabled | safe | driven
deriving DecidableEq, Repr

/-- A line entry (R101). -/
structure Line where
  source : Option RecordIndex
  bitIndex : Nat
  polarity : Polarity
  safeLevel : Level
  state : LineState
  applied : Level
  staged : Option Level
deriving DecidableEq, Repr

/-! ### Cycle Lock (07) -/

/-- The lock states (R113). -/
inductive LockState where
  | free | seeking | acquiring | tracking | holdover
deriving DecidableEq, Repr

/-- A sync window (R113, R116): the boundary of its cycle, its opening and end ticks, L and W as it took them, whether
its opening has been taken and whether it is spent. -/
structure Window where
  boundary : Nat
  opening : Nat
  ending : Nat
  latency : Nat
  span : Nat
  isOpen : Bool
  spent : Bool
deriving DecidableEq, Repr

/-- The Cycle Lock's items (R113). -/
structure Lock where
  state : LockState
  acquisition : Nat
  excursion : Nat
  holdover : Nat
  window : Option Window
deriving DecidableEq, Repr

/-! ### Line Ports (08) -/

/-- UP or DOWN (R134). -/
inductive LinkStatus where
  | down | up
deriving DecidableEq, Repr

/-- An input side: its link status and its loss timer, the arrival tick of the last valid cell, or stopped (R134). -/
structure Link where
  status : LinkStatus
  lastValid : Option Nat
deriving DecidableEq, Repr

/-- The fourteen port counters, in the order of R143. -/
structure PortCounters where
  uGood : Word16
  uBad : Word16
  uUnknown : Word16
  uUnexpected : Word16
  uSyncIgnored : Word16
  uOutOfWindow : Word16
  uMapDrops : Word16
  uPassDrops : Word16
  uReplyDrops : Word16
  dGood : Word16
  dBad : Word16
  dUnknown : Word16
  dDiscarded : Word16
  dThroughDrops : Word16
deriving DecidableEq, Repr

/-! ### Upstream Merge (09) and Management Agent (10) -/

/-- The fourteen event kinds, in the order of R158. -/
inductive EventKind where
  | startedUp | linkChange | lockState | numberSlip | streamRunning | streamFault | swapDone | copyDone
  | leaseGranted | leaseExpired | claimRaised | poolExhausted | throughOverflow | replyDropped
deriving DecidableEq, Repr

/-- An entry of the Event Queue (R153). -/
structure EventEntry where
  kind : EventKind
  object : Option (BitVec 8)
  argument : Option Word16
  firstCycle : Word16
  repeats : BitVec 8
deriving DecidableEq, Repr

/-- The reply statuses (R166). -/
inductive Status where
  | ok | noChange | badOperation | badItem | notOnBroadcast | notHolder | staleEpoch | busy | bankLocked
  | wrongState | badValue | inUse | invalidBank | notPending | claimPending
deriving DecidableEq, Repr

/-- A reply record (R152, R167): manager, tag, status, detail, and the reply data with the number of entries in it. -/
structure Reply where
  manager : Manager
  tag : Octet
  status : Status
  detail : Word16
  count : Octet
  data : DataArea
deriving DecidableEq, Repr

/-- The store U-out last sent from (R150). -/
inductive Winner where
  | through | own
deriving DecidableEq, Repr

/-- The cycle source (R114). -/
inductive CycleSource where
  | loc | line
deriving DecidableEq, Repr

/-- The Settings record (R160). `mask` has one bit an event kind, numbered by its code (R188). -/
structure Settings where
  guard : Nat
  source : CycleSource
  latency : Nat
  window : Nat
  lockWindow : Nat
  holdoverLimit : Nat
  mark : Bool
  mask : BitVec 14
  leaseTimeout : Nat
  claimGrace : Nat
deriving DecidableEq, Repr

/-! ### Edit Lease (11) -/

/-- FREE or HELD (R175). -/
inductive LeaseState where
  | free | held
deriving DecidableEq, Repr

/-- The Edit Lease's items (R175); `base` is the tick from which the next unit step is timed (R176). -/
structure Lease where
  state : LeaseState
  holder : Option Manager
  epoch : Word16
  countdown : Option Nat
  base : Nat
  claimant : Option Manager
deriving DecidableEq, Repr

/-! ### The whole gate -/

/-- The state of the gate, all of it, and the queue of the commands that wait. -/
structure State where
  /-- ticks since the model's origin (log 1) -/
  now : Nat
  /-- whether the reset pin is held (R11); it is held from power-on until its release (R102, 12.5) -/
  pinHeld : Bool
  /-- the strap levels at the last sampling (R135) -/
  straps : Address
  nodeAddress : Address
  timer : Timer
  map : Vector MapEntry 4096
  records : Vector Record 256
  /-- free count of the pool (R39) -/
  free : Nat
  passQueue : List Cell
  banks : Banks
  engine : EngineState
  /-- the cell in flight on D-out (R77) -/
  dOut : Option Flight
  lines : Vector Line 8
  lock : Lock
  uIn : Link
  dIn : Link
  ports : PortCounters
  /-- the Through FIFO (R147) -/
  through : List Cell
  /-- the Reply Queue (R152) -/
  replies : List Reply
  /-- the Event Queue (R153) -/
  events : List EventEntry
  /-- the lost marker, true for SET (R154) -/
  lost : Bool
  /-- the last-winner flag (R150) -/
  lastWinner : Winner
  /-- the cell in flight on U-out (R151) -/
  uOut : Option Cell
  /-- U-out cell times begun in the current cycle (R1, R149) -/
  uBegun : Nat
  /-- the Reply Cache, one entry for each manager (R159) -/
  cache : Vector (Option Reply) 4
  settings : Settings
  lease : Lease
  /-- the commands that wait, first in, first out -/
  pending : List Instr
deriving DecidableEq, Repr

/-- What stops the machine. The spec names no condition that stops the gate: a bad cell is counted, a refused request is
answered, an exhausted pool discards. So no command raises a fault and there is no constructor. -/
inductive Fault where
deriving DecidableEq, Repr

/-- Why a command has no meaning. -/
inductive Refusal where
  /-- Raised by an arm of `exec` whose command has no meaning yet (safe: the model stops). No arm raises it. -/
  | notModelled (mnemonic : String)
deriving DecidableEq, Repr

/-! ### Reset values -/

/-- The configuration fields of an UNUSED record (R19, R21). -/
def RecordConfig.default : RecordConfig :=
  { delivery := .downstream, depthLimit := 4, overflow := .dropNew, missPolicy := .idleCell, faultThreshold := 0, retag := 0 }

/-- All six counters at 0 (R34). -/
def RecordCounters.zero : RecordCounters :=
  { released := 0, repeated := 0, missed := 0, early := 0, late := 0, refused := 0 }

/-- An UNUSED record with the reset values of R19. -/
def Record.unused : Record :=
  { state := .unused, bound := none, config := .default, misses := 0, lastValue := none, queue := [], counters := .zero }

/-- A bank at reset: length 0, every entry QUIET (R56). -/
def Bank.reset : Bank := { length := 0, entries := Vector.replicate 1024 .quiet }

/-- A line entry at reset (R101). -/
def Line.reset : Line :=
  { source := none, bitIndex := 0, polarity := .direct, safeLevel := .low, state := .disabled, applied := .low, staged := none }

/-- The fourteen port counters at 0 (R143). -/
def PortCounters.zero : PortCounters :=
  { uGood := 0, uBad := 0, uUnknown := 0, uUnexpected := 0, uSyncIgnored := 0, uOutOfWindow := 0, uMapDrops := 0, uPassDrops := 0,
    uReplyDrops := 0, dGood := 0, dBad := 0, dUnknown := 0, dDiscarded := 0, dThroughDrops := 0 }

/-- The Settings record at reset (R160). -/
def Settings.reset : Settings :=
  { guard := 128, source := .line, latency := 256, window := 512, lockWindow := 64, holdoverLimit := 8, mark := false, mask := 0,
    leaseTimeout := 200, claimGrace := 20 }

/-- Cycle 0 begun at tick `t`, with the idle length (01 section 1.1, R11). -/
def Timer.reset (t : Nat) : Timer :=
  { number := 0, length := Config.idleLength, position := .slot 0, start := t, guardBase := 128, trim := 0, nextTrim := none,
    nextNumber := none, placement := none }

/-- Every block in its power-on state at tick `t`, the straps sampled at the given levels, every queue empty (R11, R37,
R55, R74, R99, R112, R132, R134, R135, R147 to R157, R174, R186). The reset's own event is not in it yet. -/
def State.cleared (t : Nat) (straps : Address) : State :=
  { now := t, pinHeld := false, straps := straps, nodeAddress := straps, timer := .reset t, map := Vector.replicate 4096 .pass,
    records := Vector.replicate 256 .unused, free := Config.poolSize, passQueue := [],
    banks := { active := .reset, shadow := .reset, activeNumber := .zero, condition := .free }, engine := .halted, dOut := none,
    lines := Vector.replicate 8 .reset,
    lock := { state := .seeking, acquisition := 0, excursion := 0, holdover := 0, window := none },
    uIn := { status := .down, lastValid := none }, dIn := { status := .down, lastValid := none }, ports := .zero, through := [],
    replies := [], events := [], lost := false, lastWinner := .own, uOut := none, uBegun := 0, cache := Vector.replicate 4 none,
    settings := .reset, lease := { state := .free, holder := none, epoch := 0, countdown := none, base := 0, claimant := none },
    pending := [] }

/-- The machine right after power-on and the release of the reset pin: every block in its power-on state, cycle 0 begun, and
STARTED_UP with argument POWER_ON (code 0) in the Event Queue (R11, R157). DESIGN CHOICE (logs 1 and 7): the tick count starts at 0 and the straps give address 0. -/
def State.reset : State :=
  { State.cleared 0 0 with
    events := [{ kind := .startedUp, object := none, argument := some 0, firstCycle := 0, repeats := 1 }] }

end Sys2Proof.Machine
end

