-- ==== Sys2Proof/Machine/Formats.lean ====
section
/-! DEFINITION. Cell and payload formats (12): headers, the check, the cells the gate builds, request, reply and event
payloads, and every code. -/

namespace Sys2Proof.Machine

/-! ### Octets of a payload and of a data area -/

/-- Octet `i` of a data area (R188). -/
def dataOctet (d : DataArea) (i : Nat) : Octet := (d >>> (8 * (31 - i))).setWidth 8

/-- Octets `i` and `i + 1` of a data area as one number, the most significant octet first. -/
def dataWord (d : DataArea) (i : Nat) : Word16 := (d >>> (8 * (30 - i))).setWidth 16

/-- Octets written one after another into a data area from octet `i` on. -/
def putOctets (d : DataArea) (i : Nat) : List Octet → DataArea
  | [] => d
  | o :: os => putOctets (d ||| (o.setWidth 256 <<< (8 * (31 - i)))) (i + 1) os

/-- The octets put end to end from data octet 0, zero after the last (R188); at most 32 of them are ever given. -/
def packData (os : List Octet) : DataArea := putOctets 0 0 os

/-- A 16-bit number as two octets, the most significant first. -/
def wordOctets (w : Word16) : List Octet := [w.extractLsb' 8 8, w.extractLsb' 0 8]

/-! ### The check (R187) -/

/-- One data bit taken into the 16-bit register. -/
def crcStep (reg : BitVec 16) (bit : Bool) : BitVec 16 :=
  if reg.msb != bit then (reg <<< 1) ^^^ 0x1021#16 else reg <<< 1

/-- The `n` low bits of `v` taken into the register, the most significant of them first. -/
def crcBits (v : BitVec 352) : Nat → BitVec 16 → BitVec 16
  | 0, reg => reg
  | n + 1, reg => crcBits v n (crcStep reg (v.getLsbD n))

/-- The check over the 44 octets of header and payload: preset FFFFh, generator 1021h, no final inversion (R187). -/
def checkOf (header : BitVec 32) (payload : Payload) : BitVec 16 := crcBits (header ++ payload) 352 0xFFFF#16

/-- The cell passes its check (R137, R187). -/
def passesCheck (c : Cell) : Bool := c.check == checkOf c.header c.payload

/-- A cell the gate builds: its check is computed over header and payload as sent (R145, R187). -/
def buildCell (header : BitVec 32) (payload : Payload) : Cell :=
  { header := header, payload := payload, check := checkOf header payload }

/-! ### Headers (12.1) -/

/-- The kind code, bits 7..5 of octet 0. -/
def kindOf (c : Cell) : BitVec 3 := c.header.extractLsb' 29 3

/-- The cycle number of a SYNC cell, octets 2 and 3. -/
def numberOf (c : Cell) : Word16 := c.header.extractLsb' 0 16

/-- The stream identifier of a DATA cell, bits 3..0 of octet 0 and octet 1. -/
def streamOf (c : Cell) : StreamId := c.header.extractLsb' 16 12

/-- The release tag of a DATA cell, bits 5..0 of octet 2. -/
def tagOf (c : Cell) : Tag := c.header.extractLsb' 8 6

/-- The destination (REQ) or source (REP, EVT) address, bits 6..0 of octet 1. -/
def addressOf (c : Cell) : Address := c.header.extractLsb' 16 7

/-- Kind codes (12.1). -/
def kindIdle : BitVec 3 := 0
/-- See `kindIdle`. -/
def kindSync : BitVec 3 := 1
/-- See `kindIdle`. -/
def kindData : BitVec 3 := 2
/-- See `kindIdle`. -/
def kindReq : BitVec 3 := 3
/-- See `kindIdle`. -/
def kindRep : BitVec 3 := 4
/-- See `kindIdle`. -/
def kindEvt : BitVec 3 := 5

/-- The header of a DATA cell, spare bits zero. -/
def dataHeader (stream : StreamId) (tag : Tag) : BitVec 32 := kindData ++ 0#1 ++ stream ++ 0#2 ++ tag ++ 0#8

/-- The header of a SYNC cell, spare bits zero. -/
def syncHeader (number : Word16) : BitVec 32 := kindSync ++ 0#13 ++ number

/-- The header of a REQ, REP or EVT cell, spare bits zero. -/
def addressedHeader (kind : BitVec 3) (address : Address) : BitVec 32 := kind ++ 0#6 ++ address ++ 0#16

/-! ### The cells the gate builds (R82, R146) -/

/-- The IDLE cell. -/
def idleCell : Cell := buildCell (kindIdle ++ 0#29) 0

/-- A SYNC cell with this cycle number (R83, R131). -/
def syncCell (number : Word16) : Cell := buildCell (syncHeader number) 0

/-- A DATA cell built by the gate: a released cell or a REPEAT cell (R92, R93). -/
def dataCell (stream : StreamId) (tag : Tag) (payload : Payload) : Cell := buildCell (dataHeader stream tag) payload

/-! ### Codes (12.3) -/

/-- Record state codes. -/
def RecordState.code : RecordState → Octet
  | .unused => 0 | .idle => 1 | .filling => 2 | .starting => 3 | .running => 4 | .paused => 5 | .faulted => 6

/-- Lock state codes. -/
def LockState.code : LockState → Octet
  | .free => 0 | .seeking => 1 | .acquiring => 2 | .tracking => 3 | .holdover => 4

/-- Engine state codes. -/
def EngineState.code : EngineState → Octet
  | .halted => 0 | .running => 1

/-- Shadow condition codes. -/
def ShadowCondition.code : ShadowCondition → Octet
  | .free => 0 | .copying _ _ => 1 | .swapPending _ => 2

/-- Lease state codes. -/
def LeaseState.code : LeaseState → Octet
  | .free => 0 | .held => 1

/-- Link status codes. -/
def LinkStatus.code : LinkStatus → Octet
  | .down => 0 | .up => 1

/-- Cycle source codes. -/
def CycleSource.code : CycleSource → Octet
  | .loc => 0 | .line => 1

/-- The cycle source a code names. -/
def CycleSource.ofCode (o : Octet) : Option CycleSource :=
  if o = 0 then some .loc else if o = 1 then some .line else none

/-- OFF 0, ON 1. -/
def markCode (b : Bool) : Octet := if b then 1 else 0

/-- The mark a code names. -/
def markOfCode (o : Octet) : Option Bool :=
  if o = 0 then some false else if o = 1 then some true else none

/-- Delivery codes. -/
def Delivery.code : Delivery → Octet
  | .downstream => 0 | .localOnly => 1 | .both => 2

/-- The delivery a code names. -/
def Delivery.ofCode (o : Octet) : Option Delivery :=
  if o = 0 then some .downstream else if o = 1 then some .localOnly else if o = 2 then some .both else none

/-- Overflow policy codes. -/
def OverflowPolicy.code : OverflowPolicy → Octet
  | .dropNew => 0 | .dropOldest => 1

/-- The overflow policy a code names. -/
def OverflowPolicy.ofCode (o : Octet) : Option OverflowPolicy :=
  if o = 0 then some .dropNew else if o = 1 then some .dropOldest else none

/-- Miss policy codes. -/
def MissPolicy.code : MissPolicy → Octet
  | .idleCell => 0 | .repeatLast => 1 | .yieldSlot => 2

/-- The miss policy a code names. -/
def MissPolicy.ofCode (o : Octet) : Option MissPolicy :=
  if o = 0 then some .idleCell else if o = 1 then some .repeatLast else if o = 2 then some .yieldSlot else none

/-- Polarity codes. -/
def Polarity.code : Polarity → Octet
  | .direct => 0 | .inverted => 1

/-- The polarity a code names. -/
def Polarity.ofCode (o : Octet) : Option Polarity :=
  if o = 0 then some .direct else if o = 1 then some .inverted else none

/-- Level codes. -/
def Level.code : Level → Octet
  | .low => 0 | .high => 1

/-- The level a code names. -/
def Level.ofCode (o : Octet) : Option Level :=
  if o = 0 then some .low else if o = 1 then some .high else none

/-- Line state codes. -/
def LineState.code : LineState → Octet
  | .disabled => 0 | .safe => 1 | .driven => 2

/-- The number of a bank as STATUS, replies and SWAP_DONE carry it. -/
def BankNumber.code : BankNumber → Octet
  | .zero => 0 | .one => 1

/-- Status codes. -/
def Status.code : Status → Octet
  | .ok => 0x00 | .noChange => 0x01 | .badOperation => 0x02 | .badItem => 0x03 | .notOnBroadcast => 0x04
  | .notHolder => 0x05 | .staleEpoch => 0x06 | .busy => 0x07 | .bankLocked => 0x08 | .wrongState => 0x09
  | .badValue => 0x0A | .inUse => 0x0B | .invalidBank => 0x0C | .notPending => 0x0D | .claimPending => 0x0E

/-- Event kind codes (12.4), which are also the mask bits. -/
def EventKind.code : EventKind → Octet
  | .startedUp => 0 | .linkChange => 1 | .lockState => 2 | .numberSlip => 3 | .streamRunning => 4 | .streamFault => 5
  | .swapDone => 6 | .copyDone => 7 | .leaseGranted => 8 | .leaseExpired => 9 | .claimRaised => 10 | .poolExhausted => 11
  | .throughOverflow => 12 | .replyDropped => 13

end Sys2Proof.Machine

namespace Sys2Proof

/-- Item class codes (R188). -/
def ItemClass.code : ItemClass → Octet
  | .ident => 0x0 | .status => 0x1 | .settings => 0x2 | .port => 0x3 | .map => 0x4 | .recordConfig => 0x5
  | .recordStatus => 0x6 | .recordCounters => 0x7 | .activeSlot => 0x8 | .shadowSlot => 0x9 | .bankLength => 0xA | .line => 0xB

/-- The item class a code names. -/
def ItemClass.ofCode (o : Octet) : Option ItemClass :=
  if o = 0x0 then some .ident else if o = 0x1 then some .status else if o = 0x2 then some .settings
  else if o = 0x3 then some .port else if o = 0x4 then some .map else if o = 0x5 then some .recordConfig
  else if o = 0x6 then some .recordStatus else if o = 0x7 then some .recordCounters else if o = 0x8 then some .activeSlot
  else if o = 0x9 then some .shadowSlot else if o = 0xA then some .bankLength else if o = 0xB then some .line else none

/-- Entries of each class (R163: its size). -/
def ItemClass.size : ItemClass → Nat
  | .ident | .status | .settings | .port => 1
  | .map => 4096
  | .recordConfig | .recordStatus | .recordCounters => 256
  | .activeSlot | .shadowSlot => 1024
  | .bankLength => 2
  | .line => 8

/-- The largest count of one request (R188). -/
def ItemClass.maxCount : ItemClass → Nat
  | .ident | .status | .settings | .port => 1
  | .map | .activeSlot | .shadowSlot => 16
  | .recordConfig | .recordStatus => 5
  | .recordCounters | .bankLength => 2
  | .line => 3

/-- The classes a WRITE may not name (R163). -/
def ItemClass.readOnly : ItemClass → Bool
  | .ident | .status | .port | .recordStatus | .recordCounters | .activeSlot => true
  | .settings | .map | .recordConfig | .shadowSlot | .bankLength | .line => false

end Sys2Proof

namespace Sys2Proof.Machine

/-! ### Entries of the item classes (R188) -/

/-- A MAP entry: value code in bits 15..14, record index in bits 7..0 when BOUND. -/
def MapEntry.word : MapEntry → Word16
  | .pass => 0x0000
  | .drop => 0x4000
  | .bound r => 0x8000#16 ||| r.setWidth 16

/-- The map entry a written word names; none for value code 3. Spare bits, and the record index of PASS and DROP, are not
read (log 20). -/
def MapEntry.ofWord (w : Word16) : Option MapEntry :=
  let code := w.extractLsb' 14 2
  if code = 0 then some .pass else if code = 1 then some .drop
  else if code = 2 then some (.bound (w.setWidth 8)) else none

/-- A slot entry: slot kind code in the high octet, record index in the low octet when STREAM. -/
def SlotEntry.word : SlotEntry → Word16
  | .quiet => 0x0000
  | .openSlot => 0x0100
  | .stream r => 0x0200#16 ||| r.setWidth 16

/-- The slot entry a written word names; none for a slot kind code above 2. -/
def SlotEntry.ofWord (w : Word16) : Option SlotEntry :=
  let code : Octet := w.extractLsb' 8 8
  if code = 0 then some .quiet else if code = 1 then some .openSlot
  else if code = 2 then some (.stream (w.setWidth 8)) else none

/-- A RECORD_CONFIG entry of 6 octets. -/
def RecordConfig.octets (c : RecordConfig) : List Octet :=
  [c.delivery.code, BitVec.ofNat 8 c.depthLimit, c.overflow.code, c.missPolicy.code, c.faultThreshold, c.retag.setWidth 8]

/-- The configuration that 6 octets at octet `i` of a data area give; none when a field lies outside its range in R19 or
carries a code that names no value (R20). -/
def RecordConfig.ofData (d : DataArea) (i : Nat) : Option RecordConfig :=
  match Delivery.ofCode (dataOctet d i), OverflowPolicy.ofCode (dataOctet d (i + 2)), MissPolicy.ofCode (dataOctet d (i + 3)) with
  | some delivery, some overflow, some missPolicy =>
    let depth := (dataOctet d (i + 1)).toNat
    let retag := dataOctet d (i + 5)
    if 1 ≤ depth ∧ depth ≤ 32 ∧ retag.toNat ≤ 31 then
      some { delivery := delivery, depthLimit := depth, overflow := overflow, missPolicy := missPolicy,
             faultThreshold := dataOctet d (i + 4), retag := retag.setWidth 5 }
    else none
  | _, _, _ => none

/-- A RECORD_STATUS entry of 6 octets. -/
def Record.statusOctets (r : Record) : List Octet :=
  r.state.code :: wordOctets (match r.bound with | some id => id.setWidth 16 | none => 0xFFFF)
    ++ [BitVec.ofNat 8 r.queue.length, r.misses, if r.lastValue.isSome then 1 else 0]

/-- A RECORD_COUNTERS entry of 12 octets. -/
def RecordCounters.octets (c : RecordCounters) : List Octet :=
  [c.released, c.repeated, c.missed, c.early, c.late, c.refused].flatMap wordOctets

/-- A LINE entry of 9 octets. -/
def Line.octets (l : Line) : List Octet :=
  wordOctets (match l.source with | some r => r.setWidth 16 | none => 0xFFFF) ++ wordOctets (BitVec.ofNat 16 l.bitIndex)
    ++ [l.polarity.code, l.safeLevel.code, l.state.code, l.applied.code,
        match l.staged with | some v => v.code | none => 0xFF]

/-- The four configuration values of a line entry (R101). -/
structure LineConfig where
  source : Option RecordIndex
  bitIndex : Nat
  polarity : Polarity
  safeLevel : Level
deriving DecidableEq, Repr

/-- The configuration that a LINE entry at octet `i` of a data area gives, the last three octets not read (R188); none
when a value names nothing or lies outside its range (R103, R188: a source above 255 other than FFFFh). -/
def LineConfig.ofData (d : DataArea) (i : Nat) : Option LineConfig :=
  let source := dataWord d i
  let bitIndex := (dataWord d (i + 2)).toNat
  match Polarity.ofCode (dataOctet d (i + 4)), Level.ofCode (dataOctet d (i + 5)) with
  | some polarity, some safeLevel =>
    if bitIndex ≤ 319 then
      if source = 0xFFFF then
        some { source := none, bitIndex := bitIndex, polarity := polarity, safeLevel := safeLevel }
      else if source.toNat ≤ 255 then
        some { source := some (source.setWidth 8), bitIndex := bitIndex, polarity := polarity, safeLevel := safeLevel }
      else none
    else none
  | _, _ => none

/-- The SETTINGS entry of 15 octets. -/
def Settings.octets (g : Settings) : List Octet :=
  wordOctets (BitVec.ofNat 16 g.guard) ++ [g.source.code] ++ wordOctets (BitVec.ofNat 16 g.latency)
    ++ wordOctets (BitVec.ofNat 16 g.window) ++ wordOctets (BitVec.ofNat 16 g.lockWindow)
    ++ [BitVec.ofNat 8 g.holdoverLimit, markCode g.mark] ++ wordOctets (g.mask.setWidth 16)
    ++ [BitVec.ofNat 8 g.leaseTimeout, BitVec.ofNat 8 g.claimGrace]

/-- The settings that the 15 octets of a written SETTINGS entry give; none when a field lies outside its range in R160 or
carries a code that names no value, or the lock window is greater than W (R115, R170). The choice for STARTED_UP is
stored as not suppressed (R156); mask bits 15 and 14 are spare (R188). -/
def Settings.ofData (d : DataArea) : Option Settings :=
  let guard := (dataWord d 0).toNat
  let latency := (dataWord d 3).toNat
  let window := (dataWord d 5).toNat
  let lockWindow := (dataWord d 7).toNat
  let holdoverLimit := (dataOctet d 9).toNat
  let leaseTimeout := (dataOctet d 13).toNat
  let claimGrace := (dataOctet d 14).toNat
  match CycleSource.ofCode (dataOctet d 2), markOfCode (dataOctet d 10) with
  | some source, some mark =>
    if 64 ≤ guard ∧ guard ≤ 1024 ∧ latency ≤ 4095 ∧ 16 ≤ window ∧ window ≤ 4095 ∧ 4 ≤ lockWindow ∧ lockWindow ≤ window
        ∧ 1 ≤ holdoverLimit ∧ 1 ≤ leaseTimeout ∧ 1 ≤ claimGrace then
      some { guard := guard, source := source, latency := latency, window := window, lockWindow := lockWindow,
             holdoverLimit := holdoverLimit, mark := mark, mask := (dataWord d 11).setWidth 14 &&& ~~~1#14,
             leaseTimeout := leaseTimeout, claimGrace := claimGrace }
    else none
  | _, _ => none

/-- The fourteen counters in the order of R143. -/
def PortCounters.words (c : PortCounters) : List Word16 :=
  [c.uGood, c.uBad, c.uUnknown, c.uUnexpected, c.uSyncIgnored, c.uOutOfWindow, c.uMapDrops, c.uPassDrops, c.uReplyDrops,
   c.dGood, c.dBad, c.dUnknown, c.dDiscarded, c.dThroughDrops]

/-! ### Request payloads (R188) -/

/-- The 40 payload octets of a REQ cell, spare bits zero. -/
def requestPayload (op : BitVec 4) (code : Octet) (q : Request) : Payload :=
  q.manager ++ 0#2 ++ op ++ q.tag ++ q.epoch ++ code ++ q.first ++ q.count ++ q.data

/-- The REQ cell that carries a request, spare bits zero and its check right. -/
def requestCell (op : BitVec 4) (code : Octet) (q : Request) : Cell :=
  buildCell (addressedHeader kindReq q.dest) (requestPayload op code q)

/-- The operation code of a REQ cell. -/
def operationOf (c : Cell) : BitVec 4 := c.payload.extractLsb' 312 4

/-- The class, command or lease operation code of a REQ cell. -/
def itemCodeOf (c : Cell) : Octet := c.payload.extractLsb' 280 8

/-- The fields of a REQ cell. -/
def requestOf (c : Cell) : Request :=
  { dest := addressOf c, manager := c.payload.extractLsb' 318 2, tag := c.payload.extractLsb' 304 8,
    epoch := c.payload.extractLsb' 288 16, first := c.payload.extractLsb' 264 16, count := c.payload.extractLsb' 256 8,
    data := c.payload.extractLsb' 0 256 }

/-! ### Replies and events (R152, R188, R189) -/

/-- The 40 payload octets of a REP cell. -/
def replyPayload (r : Reply) : Payload :=
  r.manager ++ 0#6 ++ r.tag ++ r.status.code ++ r.count ++ r.detail ++ r.data ++ 0#16

/-- The REP cell of a reply record, from this node address (R152). -/
def replyCell (node : Address) (r : Reply) : Cell := buildCell (addressedHeader kindRep node) (replyPayload r)

/-- An event record of 8 octets (R189). -/
def eventRecord (e : EventEntry) : BitVec 64 :=
  e.kind.code ++ BitVec.ofBool e.object.isSome ++ BitVec.ofBool e.argument.isSome ++ 0#6 ++ e.object.getD 0 ++ e.argument.getD 0
    ++ e.firstCycle ++ e.repeats

/-- The 40 payload octets of an EVT cell with these entries, at most four (R189). -/
def eventPayload (lost : Bool) (es : List EventEntry) : Payload :=
  let rec64 (i : Nat) : BitVec 64 := match es[i]? with | some e => eventRecord e | none => 0
  BitVec.ofBool lost ++ 0#4 ++ BitVec.ofNat 3 es.length ++ 0#8 ++ rec64 0 ++ rec64 1 ++ rec64 2 ++ rec64 3 ++ 0#48

/-- The EVT cell with these entries, from this node address (R155). -/
def eventCell (node : Address) (lost : Bool) (es : List EventEntry) : Cell :=
  buildCell (addressedHeader kindEvt node) (eventPayload lost es)

end Sys2Proof.Machine
end

