-- ==== Sys2Proof/Machine/Ops.lean ====
section
/-! DEFINITION. The named operations the blocks share: the tick count, records and map entries by their index, port
counters, the Event Queue, the Reply Queue, output lines and the engine halt. -/

namespace Sys2Proof.Machine

/-! ### Ticks -/

/-- `dt` ticks pass (R1). -/
def State.passTime (s : State) (dt : Nat) : State := { s with now := s.now + dt }

/-- A happening due at tick `t` is taken: at `t`, or at the present tick when the sender is late (log 2). -/
def State.reach (s : State) (t : Nat) : State := { s with now := max s.now t }

/-- Ticks since the current cycle's boundary (01, section 1.1). -/
def State.elapsed (s : State) : Nat := s.now - s.timer.start

/-! ### Records and map entries -/

/-- Stream record `r`. -/
def State.record (s : State) (r : RecordIndex) : Record := s.records[r.toNat]'(r.isLt)

/-- Stream record `r` becomes `x`. -/
def State.setRecord (s : State) (r : RecordIndex) (x : Record) : State :=
  { s with records := s.records.set r.toNat x r.isLt }

/-- The map entry of an identifier. -/
def State.mapEntry (s : State) (id : StreamId) : MapEntry := s.map[id.toNat]'(id.isLt)

/-- The map entry of an identifier becomes `e`; bindings are not touched here. -/
def State.setMapEntry (s : State) (id : StreamId) (e : MapEntry) : State :=
  { s with map := s.map.set id.toNat e id.isLt }

/-- One of the six counters of a record advanced (R33). -/
def Record.countReleased (x : Record) : Record := { x with counters := { x.counters with released := saturate x.counters.released } }
/-- See `Record.countReleased`. -/
def Record.countRepeated (x : Record) : Record := { x with counters := { x.counters with repeated := saturate x.counters.repeated } }
/-- See `Record.countReleased`. -/
def Record.countMissed (x : Record) : Record := { x with counters := { x.counters with missed := saturate x.counters.missed } }
/-- See `Record.countReleased`. -/
def Record.countEarly (x : Record) : Record := { x with counters := { x.counters with early := saturate x.counters.early } }
/-- The late counter advanced `n` times (R33). -/
def Record.countLate (x : Record) (n : Nat) : Record := { x with counters := { x.counters with late := saturateBy x.counters.late n } }
/-- See `Record.countReleased`. -/
def Record.countRefused (x : Record) : Record := { x with counters := { x.counters with refused := saturate x.counters.refused } }

/-! ### Input sides and port counters -/

/-- The link of a side. -/
def State.link (s : State) : Side → Link
  | .uIn => s.uIn
  | .dIn => s.dIn

/-- The link of a side becomes `l`. -/
def State.setLink (s : State) (side : Side) (l : Link) : State :=
  match side with
  | .uIn => { s with uIn := l }
  | .dIn => { s with dIn := l }

/-- The port counters changed by `f`. -/
def State.count (s : State) (f : PortCounters → PortCounters) : State := { s with ports := f s.ports }

/-- Good cells of a side (R143). -/
def PortCounters.good (c : PortCounters) : Side → PortCounters
  | .uIn => { c with uGood := saturate c.uGood }
  | .dIn => { c with dGood := saturate c.dGood }

/-- Bad cells of a side (R143). -/
def PortCounters.bad (c : PortCounters) : Side → PortCounters
  | .uIn => { c with uBad := saturate c.uBad }
  | .dIn => { c with dBad := saturate c.dBad }

/-- Unknown kinds of a side (R143). -/
def PortCounters.unknown (c : PortCounters) : Side → PortCounters
  | .uIn => { c with uUnknown := saturate c.uUnknown }
  | .dIn => { c with dUnknown := saturate c.dUnknown }

/-- Unexpected cells on U-in (R143). -/
def PortCounters.unexpected (c : PortCounters) : PortCounters := { c with uUnexpected := saturate c.uUnexpected }
/-- SYNC cells ignored on U-in (R143). -/
def PortCounters.syncIgnored (c : PortCounters) : PortCounters := { c with uSyncIgnored := saturate c.uSyncIgnored }
/-- SYNC cells outside any window (R143). -/
def PortCounters.outOfWindow (c : PortCounters) : PortCounters := { c with uOutOfWindow := saturate c.uOutOfWindow }
/-- Map drops (R143). -/
def PortCounters.mapDrop (c : PortCounters) : PortCounters := { c with uMapDrops := saturate c.uMapDrops }
/-- Pass drops (R143). -/
def PortCounters.passDrop (c : PortCounters) : PortCounters := { c with uPassDrops := saturate c.uPassDrops }
/-- Reply drops (R143). -/
def PortCounters.replyDrop (c : PortCounters) : PortCounters := { c with uReplyDrops := saturate c.uReplyDrops }
/-- REQ and SYNC cells discarded on D-in (R143). -/
def PortCounters.discarded (c : PortCounters) : PortCounters := { c with dDiscarded := saturate c.dDiscarded }
/-- Through drops (R143). -/
def PortCounters.throughDrop (c : PortCounters) : PortCounters := { c with dThroughDrops := saturate c.dThroughDrops }

/-! ### The Event Queue (R153) -/

/-- The entry holds this kind and object. Two absent objects are the same object. -/
def EventEntry.isOf (e : EventEntry) (kind : EventKind) (object : Option (BitVec 8)) : Bool :=
  e.kind == kind && e.object == object

/-- An event folded into its entry: the repeat count rises, saturating at 255, and the argument becomes the event's. -/
def EventEntry.fold (e : EventEntry) (argument : Option Word16) : EventEntry :=
  { e with repeats := saturate e.repeats, argument := argument }

/-- The event mask suppresses the kind (R156). -/
def State.masks (s : State) (kind : EventKind) : Bool := s.settings.mask.getLsbD kind.code.toNat

/-- An event offered to the Event Queue: mask, match, new entry, lost, in this order (R153, R154). -/
def State.offerEvent (s : State) (kind : EventKind) (object : Option (BitVec 8)) (argument : Option Word16) : State :=
  if s.masks kind then s
  else if s.events.any (·.isOf kind object) then
    { s with events := s.events.map fun e => if e.isOf kind object then e.fold argument else e }
  else if s.events.length < Config.eventLimit then
    { s with events := s.events ++ [{ kind := kind, object := object, argument := argument, firstCycle := s.timer.number, repeats := 1 }] }
  else { s with lost := true }

/-- One event of a kind offered for each object in a list, in its order. -/
def State.offerEach (s : State) (kind : EventKind) : List (BitVec 8) → State
  | [] => s
  | o :: os => (s.offerEvent kind (some o) none).offerEach kind os

/-! ### Replies (R152, R162, R167) -/

/-- What a request ends in: status, detail, number of returned entries and data (R167). -/
structure Answer where
  status : Status
  detail : Word16
  count : Octet
  data : DataArea
deriving DecidableEq, Repr

/-- An answer without data. -/
def Answer.plain (status : Status) (detail : Word16) : Answer := { status := status, detail := detail, count := 0, data := 0 }

/-- OK with detail 0. -/
def Answer.ok : Answer := .plain .ok 0

/-- NO_CHANGE. -/
def Answer.noChange : Answer := .plain .noChange 0

/-- OK when something changed, NO_CHANGE when nothing did (R166). -/
def Answer.ofChange (changed : Bool) : Answer := if changed then .ok else .noChange

/-- The reply record of an answer (R167). -/
def Answer.record (a : Answer) (manager : Manager) (tag : Octet) : Reply :=
  { manager := manager, tag := tag, status := a.status, detail := a.detail, count := a.count, data := a.data }

/-- The Reply Cache entry of a manager (R159). -/
def State.cached (s : State) (m : Manager) : Option Reply := s.cache[m.toNat]'(m.isLt)

/-- A reply record appended to the Reply Queue (R152). -/
def State.pushReply (s : State) (r : Reply) : State := { s with replies := s.replies ++ [r] }

/-- A reply record becomes its manager's cache entry (R167). -/
def State.cacheReply (s : State) (r : Reply) : State :=
  { s with cache := s.cache.set r.manager.toNat (some r) r.manager.isLt }

/-! ### Output lines -/

/-- The line, if the record is its source, goes SAFE and loses a staged value (R108). -/
def Line.safeFor (r : RecordIndex) (l : Line) : Line :=
  if l.source = some r then { l with staged := none, state := .safe } else l

/-- The line, if the record is its source, loses its source and becomes DISABLED (R108, RELEASE). -/
def Line.disableFor (r : RecordIndex) (l : Line) : Line :=
  if l.source = some r then { l with source := none, staged := none, state := .disabled } else l

/-- The line, if it has a source, loses a staged value and goes SAFE (R109, R111). -/
def Line.halt (l : Line) : Line :=
  if l.source.isSome then { l with staged := none, state := .safe } else l

/-- A staged value becomes the applied value and the line is DRIVEN (R106). -/
def Line.apply (l : Line) : Line :=
  match l.staged with
  | some v => { l with applied := v, staged := none, state := .driven }
  | none => l

/-- The level a payload gives a line: its bit at the bit index, bit 0 the most significant bit of octet 0, after the
polarity (R101, R105). -/
def Line.levelOf (l : Line) (p : Payload) : Level :=
  let bit := p.getMsbD l.bitIndex
  match l.polarity with
  | .direct => if bit then .high else .low
  | .inverted => if bit then .low else .high

/-- The line, if the record is its source, is staged from the payload (R105). -/
def Line.stageFor (r : RecordIndex) (p : Payload) (l : Line) : Line :=
  if l.source = some r then { l with staged := some (l.levelOf p) } else l

/-- Every line changed by `f`. -/
def State.eachLine (s : State) (f : Line → Line) : State := { s with lines := mapAll f s.lines }

/-- The level the pin of an entry shows (R102). -/
def Line.pin (l : Line) : Level :=
  match l.state with
  | .disabled => .low
  | .safe => l.safeLevel
  | .driven => l.applied

/-- The level of output line pin `i`: LOW while the reset pin is held (R102). -/
def State.pinLevel (s : State) (i : Fin 8) : Level := if s.pinHeld then .low else (s.lines[i.val]'(i.isLt)).pin

/-! ### The engine halt and the end of a slot -/

/-- The engine becomes HALTED; every line with a source goes SAFE and loses a staged value. A halt while HALTED changes
nothing (R79, R109). -/
def State.haltEngine (s : State) : State :=
  match s.engine with
  | .halted => s
  | .running => ({ s with engine := .halted } : State).eachLine Line.halt

/-- The cell in flight on D-out ends: its buffer, if it holds one, is freed (R48, R97). -/
def State.endFlight (s : State) : State :=
  match s.dOut with
  | some f => { s with free := if f.buffered then s.free + 1 else s.free, dOut := none }
  | none => s

/-- The end of a slot: the buffer in flight is freed and staged values are applied (R48, R82, R106). -/
def State.endSlot (s : State) : State := s.endFlight.eachLine Line.apply

/-! ### What the outputs carry (R1, R145, R146) -/

/-- The content of an output line: a cell, or fill. -/
inductive LineContent where
  | fill | sends (c : Cell)
deriving DecidableEq, Repr

/-- D-out: fill in the guard (R145) and while the reset pin is held (R146), else the cell in flight; in slot 0 of the cycle
that a reset begins, an IDLE cell (R99, log 10). -/
def State.dOutLine (s : State) : LineContent :=
  if s.pinHeld then .fill
  else match s.timer.position with
    | .guard => .fill
    | .slot _ => match s.dOut with
      | some f => .sends f.cell
      | none => .sends idleCell

/-- U-out: the cell in flight (R145), or fill where none is: in the guard (R145), after a reset cuts it off and while the reset
pin is held (R146). -/
def State.uOutLine (s : State) : LineContent :=
  match s.uOut with
  | some c => .sends c
  | none => .fill

end Sys2Proof.Machine
end

