-- ==== Sys2Proof/Machine/Banks.lean ====
section
/-! DEFINITION. The Schedule Banks (04): entries, COPY and its steps, SWAP, SWAP_AT, SWAP_CANCEL, the taking of a swap and
the writes of the shadow. -/

namespace Sys2Proof.Machine

/-- A bank is valid when its length lies in 8..1024 (R56). -/
def Bank.valid (b : Bank) : Bool := decide (Config.minLength ≤ b.length ∧ b.length ≤ Config.maxLength)

/-- Entry `k` of a bank (R56); no index beyond 1023 is ever asked for. -/
def Bank.entry (b : Bank) (k : Nat) : SlotEntry := if h : k < 1024 then b.entries[k]'h else .quiet

/-- Entry `k` becomes `e`. -/
def Bank.setEntry (b : Bank) (k : Nat) (e : SlotEntry) : Bank :=
  if h : k < 1024 then { b with entries := b.entries.set k e h } else b

/-- The first slot of 1..length-1 that satisfies `p` (R27, R65). -/
def Bank.firstSlot (b : Bank) (p : SlotEntry → Bool) : Option Nat :=
  (List.range b.length).find? fun k => decide (1 ≤ k) && p (b.entry k)

/-- The other bank number. -/
def BankNumber.other : BankNumber → BankNumber
  | .zero => .one
  | .one => .zero

/-- The banks changed by `f`. -/
def State.withBanks (s : State) (f : Banks → Banks) : State := { s with banks := f s.banks }

/-! ### COPY (R62, R63) -/

/-- A COPY taken in FREE: COPYING from this tick, shadow length 0 (R62). -/
def Banks.beginCopy (b : Banks) (now : Nat) : Banks :=
  { b with condition := .copying now 0, shadow := { b.shadow with length := 0 } }

/-- Entries `k`, `k + 1`, ..., `k + n - 1` of the shadow take the active bank's values. -/
def copyEntries (active shadow : Bank) (k : Nat) : Nat → Bank
  | 0 => shadow
  | n + 1 => copyEntries active (shadow.setEntry k (active.entry k)) (k + 1) n

/-- Copy step `done + 1`: 16 entries written (R63). -/
def Banks.copyStep (b : Banks) (takenAt done : Nat) : Banks :=
  { b with
    shadow := copyEntries b.active b.shadow (Config.copyStepEntries * done) Config.copyStepEntries
    condition := .copying takenAt (done + 1) }

/-- The last copy step: the last 16 entries, the length, and the condition FREE (R63). -/
def Banks.finishCopy (b : Banks) (done : Nat) : Banks :=
  { b with
    shadow := { copyEntries b.active b.shadow (Config.copyStepEntries * done) Config.copyStepEntries with length := b.active.length }
    condition := .free }

/-- The tick of copy step `done + 1` of a copy taken at `takenAt` (R63). -/
def copyStepTick (takenAt done : Nat) : Nat := takenAt + Config.copyStepTicks * (done + 1)

/-! ### Swaps (R65 to R68) -/

/-- A slot names an UNUSED record (R65, check 3). -/
def State.namesUnused (s : State) : SlotEntry → Bool
  | .stream r => (s.record r).state == .unused
  | _ => false

/-- The checks of a swap on the shadow: none when it passes, else the detail of INVALID_BANK (R65). -/
def State.shadowFault (s : State) : Option Word16 :=
  let b := s.banks.shadow
  if !b.valid then some 0
  else if s.settings.source = .line ∧ b.length * Config.cellTime ≤ s.settings.latency + s.settings.window then some 0
  else match b.firstSlot s.namesUnused with
    | some k => some (BitVec.ofNat 16 k)
    | none => none

/-- SWAP or SWAP_AT: the shadow condition, the checks of R65, and the acceptance of R66. -/
def State.askSwap (s : State) (target : SwapTarget) : State × Answer :=
  match s.banks.condition with
  | .copying _ _ => (s, .plain .busy 0)
  | .swapPending _ => (s, .plain .bankLocked 0)
  | .free =>
    match s.shadowFault with
    | some detail => (s, .plain .invalidBank detail)
    | none => (s.withBanks fun b => { b with condition := .swapPending target },
               .plain .ok (s.banks.activeNumber.other.code.setWidth 16))

/-- COPY (R62). -/
def State.askCopy (s : State) : State × Answer :=
  match s.banks.condition with
  | .copying _ _ => (s, .plain .busy 0)
  | .swapPending _ => (s, .plain .bankLocked 0)
  | .free => (s.withBanks (·.beginCopy s.now), .ok)

/-- SWAP_CANCEL (R71). -/
def State.cancelSwap (s : State) : State × Answer :=
  match s.banks.condition with
  | .swapPending _ => (s.withBanks fun b => { b with condition := .free }, .ok)
  | .free | .copying _ _ => (s, .plain .notPending 0)

/-- The boundary that begins cycle `n` is the taking boundary of the pending swap (R67). -/
def ShadowCondition.takenAt (c : ShadowCondition) (n : Word16) : Bool :=
  match c with
  | .swapPending .nextBoundary => true
  | .swapPending (.cycle target) => decide ((n - target).toNat < 32768)
  | .free | .copying _ _ => false

/-- The roles exchanged and the condition FREE (R68). -/
def Banks.exchange (b : Banks) : Banks :=
  { active := b.shadow, shadow := b.active, activeNumber := b.activeNumber.other, condition := .free }

/-- The banks after the boundary that begins cycle `n` (R67, R68). -/
def Banks.atBoundary (b : Banks) (n : Word16) : Banks := if b.condition.takenAt n then b.exchange else b

/-- The banks after a soft reset: a copy is aborted with shadow length 0, a pending swap is cancelled (R75). -/
def Banks.softReset (b : Banks) : Banks :=
  match b.condition with
  | .copying _ _ => { b with condition := .free, shadow := { b.shadow with length := 0 } }
  | .swapPending _ => { b with condition := .free }
  | .free => b

/-! ### Who names a record (R27) -/

/-- A slot entry names record `r`. -/
def SlotEntry.names (r : RecordIndex) (e : SlotEntry) : Bool := e == .stream r

/-- The first slot of the active bank, then of the shadow while a swap is pending, that names the record (R27). -/
def Banks.firstNaming (b : Banks) (r : RecordIndex) : Option Nat :=
  match b.active.firstSlot (·.names r) with
  | some k => some k
  | none => match b.condition with
    | .swapPending _ => b.shadow.firstSlot (·.names r)
    | .free | .copying _ _ => none

/-! ### Writes of the shadow (R60, R61) -/

/-- The entries of a SHADOW_SLOT write: index and written word. -/
def slotWrites (q : Request) : List (Nat × Word16) :=
  (List.range q.count.toNat).map fun j => (q.first.toNat + j, dataWord q.data (2 * j))

/-- The entries applied to a bank, a word that names no entry kind being passed over (none is left at that point). -/
def Bank.writeSlots (b : Bank) : List (Nat × Word16) → Bank
  | [] => b
  | (k, w) :: rest => match SlotEntry.ofWord w with
    | some e => (b.setEntry k e).writeSlots rest
    | none => b.writeSlots rest

/-- WRITE_SHADOW_SLOT after the agent's checks (R60). -/
def State.writeShadow (s : State) (q : Request) : State × Answer :=
  match s.banks.condition with
  | .copying _ _ => (s, .plain .busy 0)
  | .swapPending _ => (s, .plain .bankLocked 0)
  | .free =>
    let writes := slotWrites q
    match writes.find? fun e => (SlotEntry.ofWord e.2).isNone with
    | some e => (s, .plain .badValue (BitVec.ofNat 16 e.1))
    | none =>
      (s.withBanks fun b => { b with shadow := b.shadow.writeSlots writes },
       .ofChange (writes.any fun e => SlotEntry.ofWord e.2 != some (s.banks.shadow.entry e.1)))

/-- WRITE_BANK_LENGTH of entry 1 after the agent's checks (R61). -/
def State.writeLength (s : State) (q : Request) : State × Answer :=
  match s.banks.condition with
  | .copying _ _ => (s, .plain .busy 0)
  | .swapPending _ => (s, .plain .bankLocked 0)
  | .free =>
    let n := (dataWord q.data 0).toNat
    if n = 0 ∨ (Config.minLength ≤ n ∧ n ≤ Config.maxLength) then
      (s.withBanks fun b => { b with shadow := { b.shadow with length := n } }, .ofChange (n != s.banks.shadow.length))
    else (s, .plain .badValue 1)

end Sys2Proof.Machine
end

