-- ==== Sys2Proof/Machine/Pool.lean ====
section
/-! DEFINITION. The Buffer Pool (03): admission to record queues and to the Pass Queue, service of the Pass Queue, and
flushes. -/

namespace Sys2Proof.Machine

/-! ### Record queues -/

/-- POOL_EXHAUSTED offered (R46). -/
def State.poolExhausted (s : State) : State := s.offerEvent .poolExhausted none none

/-- The arriving cell is discarded and record `r` counts it refused (R42, R44, R45). -/
def State.refuseCell (s : State) (r : RecordIndex) : State := s.setRecord r (s.record r).countRefused

/-- The cell takes a fresh buffer and goes to the tail (R43). -/
def State.appendCell (s : State) (r : RecordIndex) (c : Cell) : State :=
  let x := s.record r
  { s with free := s.free - 1 }.setRecord r { x with queue := x.queue ++ [c] }

/-- The head is removed and counted late, and the cell takes its buffer and goes to the tail (R44). -/
def State.replaceHead (s : State) (r : RecordIndex) (c : Cell) : State :=
  let x := s.record r
  s.setRecord r { x.countLate 1 with queue := x.queue.tail ++ [c] }

/-- An admitted cell placed by queue length, free count and overflow policy (R43, R44, R45). -/
def State.placeCell (s : State) (r : RecordIndex) (c : Cell) : State :=
  let x := s.record r
  if x.queue.length < x.config.depthLimit then
    if 0 < s.free then s.appendCell r c
    else match x.config.overflow, x.queue with
      | .dropOldest, _ :: _ => s.replaceHead r c
      | _, _ => (s.refuseCell r).poolExhausted
  else match x.config.overflow with
    | .dropNew => s.refuseCell r
    | .dropOldest => s.replaceHead r c

/-- A DATA cell offered to record `r` (R42). That the record is UNUSED cannot occur; the cell is then discarded
(log 16). -/
def State.offerRecord (s : State) (r : RecordIndex) (c : Cell) : State :=
  match (s.record r).state with
  | .filling | .starting | .running | .paused => s.placeCell r c
  | .idle | .faulted => s.refuseCell r
  | .unused => s

/-- Record `r`'s queue flushed: every buffer freed, no counter advanced (R49). -/
def State.flushQueue (s : State) (r : RecordIndex) : State :=
  let x := s.record r
  { s with free := s.free + x.queue.length }.setRecord r { x with queue := [] }

/-! ### The Pass Queue -/

/-- What the Pass Queue does with a cell offered to it: a full queue is judged before an empty pool (R51, R52). -/
inductive PassVerdict where
  | room | queueFull | poolEmpty
deriving DecidableEq, Repr

/-- The verdict on a cell offered now (R51, R52). -/
def State.passVerdict (s : State) : PassVerdict :=
  if s.passQueue.length < Config.passLimit then (if 0 < s.free then .room else .poolEmpty) else .queueFull

/-- A verdict carried out (R51, R52). -/
def State.applyPass (s : State) (v : PassVerdict) (c : Cell) : State :=
  match v with
  | .room => { s with passQueue := s.passQueue ++ [c], free := s.free - 1 }
  | .queueFull => s.count .passDrop
  | .poolEmpty => (s.count .passDrop).poolExhausted

/-- A cell offered to the Pass Queue. -/
def State.offerPass (s : State) (c : Cell) : State := s.applyPass s.passVerdict c

/-- A slot served from the Pass Queue: its head goes into flight with its buffer, or an IDLE cell is sent (R53). -/
def State.servePass (s : State) : State :=
  match s.passQueue with
  | c :: rest => { s with passQueue := rest, dOut := some { cell := c, source := .passQueue, buffered := true } }
  | [] => { s with dOut := some { cell := idleCell, source := .engine, buffered := false } }

/-! ### The soft reset's flush (R38, R54) -/

/-- The record after a soft reset: an UNUSED record is unchanged (R38). -/
def Record.softReset (x : Record) : Record :=
  match x.state with
  | .unused => x
  | _ => { x with queue := [], lastValue := none, misses := 0, state := .idle }

/-- Buffers that a soft reset frees from this record's queue. -/
def Record.flushable (x : Record) : Nat :=
  match x.state with
  | .unused => 0
  | _ => x.queue.length

/-- Every record and the Pass Queue flushed and every record that is not UNUSED made IDLE (R38, R54). -/
def State.softFlush (s : State) : State :=
  { s with
    free := s.free + (s.records.toArray.toList.map Record.flushable).sum + s.passQueue.length
    passQueue := []
    records := mapAll Record.softReset s.records }

end Sys2Proof.Machine
end

