-- ==== Sys2Proof/Machine/Engine.lean ====
section
/-! DEFINITION. The Release Engine (05): how each slot of D-out is filled, the tag window, misses, faults and staging. -/

namespace Sys2Proof.Machine

/-- A cell the engine makes goes into flight without a buffer (R48, R82). -/
def State.sendBuilt (s : State) (c : Cell) (source : FlightSource) : State :=
  { s with dOut := some { cell := c, source := source, buffered := false } }

/-- An IDLE cell goes into flight. -/
def State.sendIdle (s : State) : State := s.sendBuilt idleCell .engine

/-- The REPEAT cell of a last value goes into flight (R92). -/
def State.sendLast (s : State) (r : RecordIndex) (v : LastValue) : State :=
  s.sendBuilt (dataCell v.stream v.tag v.payload) (.record r)

/-- The distance of a head's tag from the current cycle, modulo 64 (R86). -/
def tagDistance (c : Cell) (cycle : Word16) : Nat := (tagOf c - cycle.setWidth 6).toNat

/-- The head is stale: its cycle passed 1 to 31 cycles ago (R86). -/
def isStale (cycle : Word16) (c : Cell) : Bool := decide (33 ≤ tagDistance c cycle)

/-- The stale heads of record `r` purged, each freed and counted late (R87). -/
def State.purge (s : State) (r : RecordIndex) : State :=
  let x := s.record r
  let stale := (x.queue.takeWhile (isStale s.timer.number)).length
  ({ s with free := s.free + stale } : State).setRecord r { x.countLate stale with queue := x.queue.dropWhile (isStale s.timer.number) }

/-- The tag a released cell is sent with (R93). -/
def tagAsSent (c : Cell) (config : RecordConfig) : Tag := tagOf c + config.retag.setWidth 6

/-- The record after releasing its head: misses 0, counted, last value written (R89). -/
def Record.release (x : Record) (c : Cell) (rest : List Cell) : Record :=
  { x.countReleased with
    queue := rest
    misses := 0
    lastValue := some { payload := c.payload, stream := streamOf c, tag := tagAsSent c x.config } }

/-- The released cell goes into flight, retagged, with its own buffer (R93, R94). It is built afresh with its spare header bits
zero, as R145 says of a released cell, also where R93 makes its header equal the received one (log 23). -/
def State.sendReleased (s : State) (r : RecordIndex) (c : Cell) (config : RecordConfig) : State :=
  { s with dOut := some { cell := dataCell (streamOf c) (tagAsSent c config) c.payload, source := .record r, buffered := true } }

/-- Every line whose source is the record staged from the payload as received (R105). -/
def State.stage (s : State) (r : RecordIndex) (p : Payload) : State := s.eachLine (Line.stageFor r p)

/-- A due head released and handled by the record's delivery (R89, R94). -/
def State.releaseHead (s : State) (r : RecordIndex) (c : Cell) (rest : List Cell) : State :=
  let x := s.record r
  let t := s.setRecord r (x.release c rest)
  match x.config.delivery with
  | .downstream => t.sendReleased r c x.config
  | .both => (t.sendReleased r c x.config).stage r c.payload
  | .localOnly => (({ t with free := t.free + 1 } : State).stage r c.payload).servePass

/-- The cell of a slot that follows the miss policy; `counts` when it is a RUNNING record's miss, in which a REPEAT send
is counted (R85, R91). -/
def State.followPolicy (s : State) (r : RecordIndex) (counts : Bool) : State :=
  let x := s.record r
  match x.config.missPolicy with
  | .idleCell => s.sendIdle
  | .yieldSlot => s.servePass
  | .repeatLast => match x.lastValue with
    | some v => ((if counts then s.setRecord r x.countRepeated else s) : State).sendLast r v
    | none => s.sendIdle

/-- The record becomes FAULTED: queue flushed, last value cleared, lines SAFE, STREAM_FAULT queued (R31). -/
def State.faultRecord (s : State) (r : RecordIndex) : State :=
  let t := s.flushQueue r
  ((t.setRecord r { t.record r with state := .faulted, lastValue := none }).eachLine (Line.safeFor r)).offerEvent .streamFault
    (some r) none

/-- A miss: counted, the slot's cell chosen by the miss policy, and the record faulted when the consecutive-miss count
now equals a non-zero threshold (R90, R91). -/
def State.miss (s : State) (r : RecordIndex) : State :=
  let x := s.record r
  let t := (s.setRecord r { x.countMissed with misses := saturate x.misses }).followPolicy r true
  if x.config.faultThreshold ≠ 0 ∧ saturate x.misses = x.config.faultThreshold then t.faultRecord r else t

/-- A slot of a RUNNING record judged by the tag window, after the purge (R86, R88, R89, R90). -/
def State.judge (s : State) (r : RecordIndex) : State :=
  let t := s.purge r
  match (t.record r).queue with
  | [] => t.miss r
  | c :: rest =>
    if tagDistance c t.timer.number = 0 then t.releaseHead r c rest
    else (t.setRecord r (t.record r).countEarly).miss r

/-- A slot whose entry is STREAM(r), by the record's state (R85). That the record is UNUSED cannot occur; an IDLE cell is
then sent (log 16). -/
def State.fillReserved (s : State) (r : RecordIndex) : State :=
  match (s.record r).state with
  | .running => s.judge r
  | .idle | .filling | .starting | .paused => s.followPolicy r false
  | .faulted => match (s.record r).config.missPolicy with
    | .yieldSlot => s.servePass
    | .idleCell | .repeatLast => s.sendIdle
  | .unused => s.sendIdle

/-- A slot filled by its entry while the engine runs (R84, R85). -/
def State.fillByEntry (s : State) (e : SlotEntry) : State :=
  match e with
  | .openSlot => s.servePass
  | .quiet => s.sendIdle
  | .stream r => s.fillReserved r

/-- The cell of slot `k` in 1..N-1 chosen: a halted slot serves the Pass Queue (R80, R82). -/
def State.fillSlot (s : State) (k : Nat) : State :=
  match s.engine with
  | .halted => s.servePass
  | .running => s.fillByEntry (s.banks.active.entry k)

/-- The cell of slot 0 chosen: SYNC with the cycle number while the engine runs (R80, R83). -/
def State.fillSlotZero (s : State) : State :=
  match s.engine with
  | .halted => s.servePass
  | .running => s.sendBuilt (syncCell s.timer.number) .engine

/-- The engine's decision at a boundary (R78). -/
def State.mayRun (s : State) : Bool :=
  s.banks.active.valid && (s.lock.state == .free || s.lock.state == .tracking || s.lock.state == .holdover)

/-- The decision carried out (R78). A decision of HALTED while RUNNING, which an earlier halt leaves no room for (R109),
is a halt. -/
def State.decideEngine (s : State) : State := if s.mayRun then { s with engine := .running } else s.haltEngine

/-- The record promoted if it is STARTING (R30). -/
def Record.promote (x : Record) : Record := if x.state = .starting then { x with state := .running } else x

/-- The indices of the STARTING records, ascending (R30, log 15). -/
def State.starting (s : State) : List RecordIndex :=
  (List.range 256).filterMap fun i =>
    if (s.record (BitVec.ofNat 8 i)).state = .starting then some (BitVec.ofNat 8 i) else none

/-- STARTING records promoted when the engine runs, STREAM_RUNNING queued for each (R30). -/
def State.promote (s : State) : State :=
  match s.engine with
  | .halted => s
  | .running => ({ s with records := mapAll Record.promote s.records } : State).offerEach .streamRunning s.starting

end Sys2Proof.Machine
end

