-- ==== Sys2Proof/Machine/Lease.lean ====
section
/-! DEFINITION. The Edit Lease (11): grants, renewals, releases, claims, unit steps and expiry. -/

namespace Sys2Proof.Machine

/-- A manager as an event object. -/
def managerObject (m : Manager) : BitVec 8 := m.setWidth 8

/-- The detail of NOT_HOLDER: the holder, or 255 when the lease is FREE (R165, R177). -/
def Lease.holderDetail (l : Lease) : Word16 :=
  match l.state, l.holder with
  | .held, some m => m.setWidth 16
  | _, _ => 255

/-- The manager holds the lease (R165, R175). -/
def Lease.heldBy (l : Lease) (m : Manager) : Bool := l.state == .held && l.holder == some m

/-- The lease changed. -/
def State.setLease (s : State) (l : Lease) : State := { s with lease := l }

/-- A grant: HELD, the new holder, the next epoch, the countdown at the lease timeout from now, no claimant, and
LEASE_GRANTED with the holder and the new epoch (R178). -/
def State.grant (s : State) (m : Manager) : State :=
  let epoch := s.lease.epoch + 1
  (s.setLease { state := .held, holder := some m, epoch := epoch, countdown := some s.settings.leaseTimeout, base := s.now,
                claimant := none }).offerEvent .leaseGranted (some (managerObject m)) (some epoch)

/-- The end of a grant: handed to the claimant, or FREE with the epoch kept (R181, R183). -/
def State.handOver (s : State) : State :=
  match s.lease.claimant with
  | some m => s.grant m
  | none => s.setLease { s.lease with state := .free, holder := none, countdown := none }

/-- The reply of a grant: OK with the new epoch (R166, R178). -/
def State.grantAnswer (s : State) : Answer := .plain .ok (s.lease.epoch + 1)

/-- ACQUIRE (R179). -/
def State.doAcquire (s : State) (q : Request) : State × Answer :=
  match s.lease.state with
  | .free => (s.grant q.manager, s.grantAnswer)
  | .held => if s.lease.heldBy q.manager then (s, .noChange) else (s, .plain .notHolder s.lease.holderDetail)

/-- The holder and epoch checks of RENEW and RELEASE (R177), and of WRITE and COMMAND (R165): none when they pass.
`epochRead` is false for a broadcast COMMAND. -/
def Lease.refusal (l : Lease) (m : Manager) (epoch : Word16) (epochRead : Bool) : Option Answer :=
  if l.heldBy m then
    if epochRead && epoch != l.epoch then some (.plain .staleEpoch l.epoch) else none
  else some (.plain .notHolder l.holderDetail)

/-- RENEW (R180). -/
def State.doRenew (s : State) (q : Request) : State × Answer :=
  match s.lease.refusal q.manager q.epoch true with
  | some a => (s, a)
  | none => (s.setLease { s.lease with countdown := some s.settings.leaseTimeout, base := s.now }, .ok)

/-- RELEASE of the lease (R181). -/
def State.doLeaseRelease (s : State) (q : Request) : State × Answer :=
  match s.lease.refusal q.manager q.epoch true with
  | some a => (s, a)
  | none => (s.handOver, .ok)

/-- A claim recorded: the countdown set to the claim grace, timed from now, when that is less (R182). -/
def Lease.claimed (l : Lease) (m : Manager) (grace now : Nat) : Lease :=
  if grace < l.countdown.getD 0 then { l with claimant := some m, countdown := some grace, base := now }
  else { l with claimant := some m }

/-- CLAIM (R182). -/
def State.doClaim (s : State) (q : Request) : State × Answer :=
  match s.lease.state with
  | .free => (s.grant q.manager, s.grantAnswer)
  | .held =>
    if s.lease.heldBy q.manager then (s, .plain .badValue 0)
    else match s.lease.claimant with
      | none =>
        ((s.setLease (s.lease.claimed q.manager s.settings.claimGrace s.now)).offerEvent .claimRaised
          (some (managerObject q.manager)) (some s.lease.holderDetail), .ok)
      | some m => if m = q.manager then (s, .noChange) else (s, .plain .claimPending (m.setWidth 16))

/-- The tick of the next unit step (R176). -/
def Lease.stepTick (l : Lease) : Nat := l.base + Config.leaseUnit

/-- A unit step that leaves the countdown above 0; the next one is timed from its tick (R176). -/
def Lease.unitStep (l : Lease) (n : Nat) : Lease := { l with countdown := some (n - 1), base := l.stepTick }

/-- LEASE_EXPIRED with the former holder as object (R183). -/
def State.reportExpiry (s : State) : State := s.offerEvent .leaseExpired (s.lease.holder.map managerObject) none

/-- The expiry: LEASE_EXPIRED, then the claimant's grant, or FREE (R183). -/
def State.expireLease (s : State) : State := s.reportExpiry.handOver

end Sys2Proof.Machine
end

