-- ==== Sys2Proof/Machine/Timer.lean ====
section
/-! DEFINITION. The Cycle Timer (01): the shape of a cycle, the ticks its happenings fall on, and what it does with the
trims, renumberings and placements handed to it. -/

namespace Sys2Proof.Machine

/-- The end tick of slot `k` of the current cycle (R2). -/
def Timer.slotEnd (t : Timer) (k : Nat) : Nat := t.start + (k + 1) * Config.cellTime

/-- The start tick of slot `k` of the current cycle (R2). -/
def Timer.slotTick (t : Timer) (k : Nat) : Nat := t.start + k * Config.cellTime

/-- Slot `k` may run: it is one of the N slots and ends at or before a placed boundary (R2, R9). -/
def Timer.slotRuns (t : Timer) (k : Nat) : Bool :=
  decide (k < t.length) && match t.placement with
    | some T => decide (t.slotEnd k ≤ T)
    | none => true

/-- The current cycle's length with trim 0, which a seed reads (R9, R120). -/
def Timer.untrimmed (t : Timer) : Nat := t.length * Config.cellTime + t.guardBase

/-- The tick of the boundary that ends the current cycle: the placement, or the one the regular shape gives (R2, R9). -/
def Timer.boundaryTick (t : Timer) : Nat :=
  match t.placement with
  | some T => T
  | none => t.start + (t.untrimmed + t.trim).toNat

/-- The number the next boundary gives the new cycle (R7, R8). -/
def Timer.nextCycle (t : Timer) : Word16 := t.nextNumber.getD (t.number + 1)

/-- A trim handed for a cycle, filed as R5 gives: for the current cycle before its guard, the current trim; otherwise the
next trim. -/
def Timer.fileTrim (t : Timer) (current : Bool) (v : Int) : Timer :=
  match current, t.position with
  | true, .slot _ => { t with trim := v }
  | _, _ => { t with nextTrim := some v }

/-- A renumbering of the current or of the next cycle (R8). -/
def Timer.renumber (t : Timer) (current : Bool) (n : Word16) : Timer :=
  if current then { t with number := n } else { t with nextNumber := some n }

/-- A boundary placement: it replaces any before it, and filed trims are discarded (R9, R10). -/
def Timer.place (t : Timer) (T : Nat) (n : Word16) : Timer :=
  { t with placement := some T, nextNumber := some n, trim := 0, nextTrim := none }

/-- The timer's part of a boundary: the new cycle of `length` slots begins at the boundary's tick with guard base `guard`
(R3, R4, R5, R7). -/
def Timer.boundary (t : Timer) (length guard : Nat) : Timer :=
  { number := t.nextCycle, length := length, position := .slot 0, start := t.boundaryTick, guardBase := guard,
    trim := t.nextTrim.getD 0, nextTrim := none, nextNumber := none, placement := none }

end Sys2Proof.Machine
end

