-- ==== Sys2Proof/Machine/Lock.lean ====
section
/-! DEFINITION. The Cycle Lock (07): seeding, sync windows, measurement, trims and slips, holdover, losing lock and
restarts. -/

namespace Sys2Proof.Machine

/-- The reasons of LOCK_STATE events, by argument code (12.4). -/
inductive LockReason where
  | seeded | acquired | missed | excursion | holdoverExpired | recovered | restart
deriving DecidableEq, Repr

/-- Argument codes of LOCK_STATE (12.4). -/
def LockReason.code : LockReason → Word16
  | .seeded => 0 | .acquired => 1 | .missed => 2 | .excursion => 3 | .holdoverExpired => 4 | .recovered => 5 | .restart => 6

/-- LOCK_STATE offered with the new state as object and the reason as argument (R133, R158). -/
def State.reportLock (s : State) (state : LockState) (why : LockReason) : State :=
  s.offerEvent .lockState (some state.code) (some why.code)

/-- The lock with its counts at 0 and no window, in a state (R128, R129). -/
def Lock.cleared (state : LockState) : Lock :=
  { state := state, acquisition := 0, excursion := 0, holdover := 0, window := none }

/-- The lock becomes SEEKING: counts 0, window discarded, a running engine halts, LOCK_STATE with the reason (R128). -/
def State.loseLock (s : State) (why : LockReason) : State :=
  ({ s with lock := .cleared .seeking } : State).haltEngine.reportLock .seeking why

/-- The lock restarts: SEEKING in LINE mode, FREE in LOCAL mode, with argument RESTART (R129, R130, R132). -/
def State.restartLock (s : State) : State :=
  match s.settings.source with
  | .line => s.loseLock .restart
  | .loc => ({ s with lock := .cleared .free } : State).reportLock .free .restart

/-! ### Seeding (R120, R122) -/

/-- The tick T of a seed and the steps from the received number to the number of the cycle that begins there: T is moved
one cycle length on when it falls before the end of the slot in progress (R120). -/
def State.seedTick (s : State) : Nat × Word16 :=
  let T := s.now + s.timer.untrimmed - s.settings.latency
  match s.timer.position with
  | .slot k => if T < s.timer.slotEnd k then (T + s.timer.untrimmed, 2) else (T, 1)
  | .guard => (T, 1)

/-- The first window after a seed, that of the cycle that begins at T (R116, R120). -/
def State.windowAt (s : State) (T : Nat) : Window :=
  { boundary := T, opening := T + s.settings.latency - s.settings.window, ending := T + s.settings.latency + s.settings.window,
    latency := s.settings.latency, span := s.settings.window, isOpen := false, spent := false }

/-- A SYNC cell seeds or re-seeds: the placement is handed to the timer, the lock is ACQUIRING with acquisition count 0 and
the window of the placed cycle, and LOCK_STATE ACQUIRING, SEEDED is queued (R120, R122). A running engine would halt
(R79). -/
def State.seed (s : State) (n : Word16) : State :=
  let T := s.seedTick.1
  ({ s with
      timer := s.timer.place T (n + s.seedTick.2)
      lock := { s.lock with state := .acquiring, acquisition := 0, window := some (s.windowAt T) } } : State).haltEngine.reportLock
    .acquiring .seeded

/-! ### Measurement (R117 to R126) -/

/-- The boundary of the window's cycle has been taken (R118, log 13). -/
def State.boundaryTaken (s : State) (w : Window) : Bool := decide (w.boundary ≤ s.timer.start)

/-- The phase error of an arrival at the present tick (R118). -/
def State.phaseError (s : State) (w : Window) : Int := (s.now : Int) - ((w.boundary + w.latency : Nat) : Int)

/-- The phase error limited to -64..+64 (R118). -/
def clampTrim (e : Int) : Int := max (-Config.trimLimit) (min e Config.trimLimit)

/-- The arrival is in lock: the phase error is no greater than the lock window, either way (R118). -/
def State.inLock (s : State) (w : Window) : Bool := decide ((s.phaseError w).natAbs ≤ s.settings.lockWindow)

/-- The number the window's cycle has or will have (R119). -/
def State.expectedNumber (s : State) (w : Window) : Word16 :=
  if s.boundaryTaken w then s.timer.number else s.timer.nextCycle

/-- A trim handed for the window's cycle (R5, R118). -/
def State.handTrim (s : State) (w : Window) (v : Int) : State :=
  { s with timer := s.timer.fileTrim (s.boundaryTaken w) v }

/-- The trim of a measured arrival (R118). -/
def State.applyTrim (s : State) (w : Window) : State := s.handTrim w (clampTrim (s.phaseError w))

/-- A number slip when the received number does not match: the window's cycle is renumbered and NUMBER_SLIP queued with the
received number (R119). -/
def State.slip (s : State) (w : Window) (n : Word16) : State :=
  if n = s.expectedNumber w then s
  else ({ s with timer := s.timer.renumber (s.boundaryTaken w) n } : State).offerEvent .numberSlip none (some n)

/-- The current window becomes spent (R116). -/
def State.spendWindow (s : State) (w : Window) : State :=
  { s with lock := { s.lock with window := some { w with spent := true } } }

/-- An in-window arrival in ACQUIRING (R121, R122). -/
def State.measureAcquiring (s : State) (w : Window) (n : Word16) : State :=
  if n = s.expectedNumber w ∧ s.inLock w = true then
    let t := (s.spendWindow w).applyTrim w
    if t.lock.acquisition + 1 ≥ Config.lockThreshold then
      ({ t with lock := { t.lock with state := .tracking, acquisition := t.lock.acquisition + 1, excursion := 0, holdover := 0 } } :
        State).reportLock .tracking .acquired
    else { t with lock := { t.lock with acquisition := t.lock.acquisition + 1 } }
  else s.seed n

/-- An in-window arrival in TRACKING (R124). -/
def State.measureTracking (s : State) (w : Window) (n : Word16) : State :=
  let t := ((s.spendWindow w).slip w n).applyTrim w
  if s.inLock w then { t with lock := { t.lock with excursion := 0 } }
  else if t.lock.excursion + 1 ≥ Config.lockThreshold then t.loseLock .excursion
  else { t with lock := { t.lock with excursion := t.lock.excursion + 1 } }

/-- The holdover count advanced, saturating at 255 (R126, R127). -/
def advanceHoldover (n : Nat) : Nat := min (n + 1) 255

/-- An in-window arrival in HOLDOVER (R126). -/
def State.measureHoldover (s : State) (w : Window) (n : Word16) : State :=
  let t := ((s.spendWindow w).slip w n).applyTrim w
  if s.inLock w then
    ({ t with lock := { t.lock with state := .tracking, excursion := 0, holdover := 0 } } : State).reportLock .tracking .recovered
  else if t.lock.excursion + 1 ≥ Config.lockThreshold then t.loseLock .excursion
  else if advanceHoldover t.lock.holdover ≥ t.settings.holdoverLimit then t.loseLock .holdoverExpired
  else { t with lock := { t.lock with excursion := t.lock.excursion + 1, holdover := advanceHoldover t.lock.holdover } }

/-- An arrival outside any window: counted, nothing else (R117). -/
def State.outsideWindow (s : State) : State := s.count .outOfWindow

/-- A good SYNC cell on U-in, by cycle source, lock state and window (R114, R117, R120). In LINE mode the lock is never
FREE (R113); the cell is then ignored as in LOCAL mode (log 16). A window that opened in the happening of another's end takes an
arrival on that same tick (DESIGN CHOICE, log 25). -/
def State.takeSync (s : State) (n : Word16) : State :=
  match s.settings.source with
  | .loc => s.count .syncIgnored
  | .line =>
    match s.lock.state with
    | .free => s.count .syncIgnored
    | .seeking => s.seed n
    | .acquiring =>
      match s.lock.window with
      | some w => if w.isOpen && !w.spent then s.measureAcquiring w n else s.outsideWindow
      | none => s.outsideWindow
    | .tracking =>
      match s.lock.window with
      | some w => if w.isOpen && !w.spent then s.measureTracking w n else s.outsideWindow
      | none => s.outsideWindow
    | .holdover =>
      match s.lock.window with
      | some w => if w.isOpen && !w.spent then s.measureHoldover w n else s.outsideWindow
      | none => s.outsideWindow

/-! ### The end of a window (R116, R123, R125, R127) -/

/-- The window after an ended one: that of the cycle after the ended window's, with L and W as they stand, opening no
earlier than the ended window's end tick, and at once when that is its opening tick (R116, log 13). DESIGN CHOICE (log 25): an
arrival on that tick, taken after the end, is then in this window (R116, R117's first case), not outside any window. -/
def State.nextWindow (s : State) (w : Window) : Window :=
  let B := if w.boundary < s.timer.start then s.timer.start else s.timer.boundaryTick
  let opening := max (B + s.settings.latency - s.settings.window) w.ending
  { boundary := B, opening := opening, ending := B + s.settings.latency + s.settings.window, latency := s.settings.latency,
    span := s.settings.window, isOpen := decide (opening ≤ w.ending), spent := false }

/-- The next window fixed (R116). -/
def State.fixWindow (s : State) (w : Window) : State :=
  { s with lock := { s.lock with window := some (s.nextWindow w) } }

/-- A window ended without a SYNC cell, the trim of 0 handed: the lock moves by its state (R123, R125, R127). -/
def State.missWindow (s : State) (w : Window) : State :=
  match s.lock.state with
  | .acquiring => s.loseLock .missed
  | .tracking =>
    if 1 < s.settings.holdoverLimit then
      ({ s with lock := { s.lock with state := .holdover, holdover := 1 } } : State).fixWindow w |>.reportLock .holdover .missed
    else s.loseLock .holdoverExpired
  | .holdover =>
    if advanceHoldover s.lock.holdover ≥ s.settings.holdoverLimit then s.loseLock .holdoverExpired
    else ({ s with lock := { s.lock with holdover := advanceHoldover s.lock.holdover } } : State).fixWindow w
  | .free | .seeking => s

/-- The end of a window (R116). -/
def State.endWindow (s : State) (w : Window) : State :=
  if w.spent then s.fixWindow w else (s.handTrim w 0).missWindow w

end Sys2Proof.Machine
end

