-- ==== Sys2Proof/Machine/Merge.lean ====
section
/-! DEFINITION. The Upstream Merge (09): the arbiter's choice for each U-out cell time. -/

namespace Sys2Proof.Machine

/-- The arbiter's two candidates, by store (R149). -/
inductive OwnCandidate where
  | none | reply (r : Reply) (rest : List Reply) | events
deriving DecidableEq, Repr

/-- The own candidate: the reply head, else an EVT cell when the Event Queue holds an entry (R149, R152, R155). -/
def State.ownCandidate (s : State) : OwnCandidate :=
  match s.replies with
  | r :: rest => .reply r rest
  | [] => if s.events.isEmpty then .none else .events

/-- A cell goes into flight on U-out. -/
def State.sendUp (s : State) (c : Cell) : State := { s with uOut := some c }

/-- The own candidate is sent: it leaves its store, and the flag holds OWN (R149, R150, R154, R155). -/
def State.sendOwn (s : State) (o : OwnCandidate) : State :=
  match o with
  | .none => s.sendUp idleCell
  | .reply r rest => ({ s with replies := rest, lastWinner := .own } : State).sendUp (replyCell s.nodeAddress r)
  | .events =>
    ({ s with events := s.events.drop Config.eventsPerCell, lost := false, lastWinner := .own } : State).sendUp
      (eventCell s.nodeAddress s.lost (s.events.take Config.eventsPerCell))

/-- The through candidate is sent: it leaves the FIFO, and the flag holds THROUGH (R149, R150). -/
def State.sendThrough (s : State) (c : Cell) (rest : List Cell) : State :=
  ({ s with through := rest, lastWinner := .through } : State).sendUp c

/-- The arbiter's choice (R149, R150). -/
def State.arbitrate (s : State) : State :=
  match s.through, s.ownCandidate with
  | [], o => s.sendOwn o
  | c :: rest, .none => s.sendThrough c rest
  | c :: rest, o => match s.lastWinner with
    | .own => s.sendThrough c rest
    | .through => s.sendOwn o

/-- Cell time 0 carries the cycle mark (R131, R149). -/
def State.marks (s : State) (k : Nat) : Bool := k == 0 && s.settings.source == .loc && s.settings.mark

/-- The cell of cell time `k` chosen (R131, R149). -/
def State.fillCellTime (s : State) (k : Nat) : State :=
  if s.marks k then s.sendUp (syncCell s.timer.number) else s.arbitrate

/-- The U-out cell time that begins next: that of the slot in progress, when it has not begun. So a cell time never begins
before its slot; on their common tick the slot's own start is taken first (R1, R145, R149, log 17). -/
def State.nextCellTime (s : State) : Option Nat :=
  match s.timer.position with
  | .slot k => if s.uBegun ≤ k then some k else none
  | .guard => none

end Sys2Proof.Machine
end

