-- ==== Sys2Proof/Machine/Writes.lean ====
section
/-! DEFINITION. The writes of LINE (06) and SETTINGS (10), each after the agent's checks. -/

namespace Sys2Proof.Machine

/-! ### LINE (R103) -/

/-- Line entry `i`. -/
def State.line (s : State) (i : BitVec 3) : Line := s.lines[i.toNat]'(i.isLt)

/-- Line entry `i` becomes `l`. -/
def State.setLine (s : State) (i : BitVec 3) (l : Line) : State := { s with lines := s.lines.set i.toNat l i.isLt }

/-- The entries of a LINE write: line and written configuration, none when a value names nothing or is out of range. -/
def lineWrites (q : Request) : List (BitVec 3 × Option LineConfig) :=
  (List.range q.count.toNat).map fun j => ((q.first + BitVec.ofNat 16 j).setWidth 3, LineConfig.ofData q.data (9 * j))

/-- A line entry is refused BAD_VALUE: a value out of range, or an UNUSED source record (R103). -/
def State.lineRefused (s : State) (e : BitVec 3 × Option LineConfig) : Bool :=
  match e.2 with
  | none => true
  | some c => match c.source with
    | some r => (s.record r).state == .unused
    | none => false

/-- The line under a written configuration: staged value discarded, applied value LOW, SAFE or DISABLED (R103). -/
def LineConfig.line (c : LineConfig) : Line :=
  { source := c.source, bitIndex := c.bitIndex, polarity := c.polarity, safeLevel := c.safeLevel
    state := if c.source.isSome then .safe else .disabled, applied := .low, staged := none }

/-- The write changes a configuration value or the state of the line, or takes a staged value from it (R103). The applied
value does not count. -/
def Line.changedBy (l : Line) (c : LineConfig) : Bool :=
  l.source != c.source || l.bitIndex != c.bitIndex || l.polarity != c.polarity || l.safeLevel != c.safeLevel
    || l.state != c.line.state || l.staged.isSome

/-- Every line of a checked write changed. -/
def State.applyLines (s : State) : List (BitVec 3 × Option LineConfig) → State
  | [] => s
  | (i, some c) :: rest => (s.setLine i c.line).applyLines rest
  | (_, none) :: rest => s.applyLines rest

/-- WRITE_LINE after the agent's checks (R103). -/
def State.doWriteLine (s : State) (q : Request) : State × Answer :=
  let writes := lineWrites q
  match writes.find? s.lineRefused with
  | some e => (s, .plain .badValue (e.1.setWidth 16))
  | none =>
    (s.applyLines writes,
     .ofChange (writes.any fun e => match e.2 with | some c => (s.line e.1).changedBy c | none => false))

/-! ### SETTINGS (R72, R115, R170) -/

/-- L + W reaches the slot span of a bank. -/
def Settings.overruns (g : Settings) (b : Bank) : Bool := decide (b.length * Config.cellTime ≤ g.latency + g.window)

/-- The new settings fail the checks against the active length and the pending plan: source LINE after the write, and L + W
at least the active length × 512 with a valid active bank, or at least the pending shadow's length × 512 (R72, R115). -/
def State.settingsRefused (s : State) (g : Settings) : Bool :=
  g.source == .line &&
    ((s.banks.active.valid && g.overruns s.banks.active) ||
      match s.banks.condition with
      | .swapPending _ => g.overruns s.banks.shadow
      | .free | .copying _ _ => false)

/-- WRITE_SETTINGS after the agent's checks: every field taken, the lock restarted when the cycle source changes (R130,
R170). -/
def State.doWriteSettings (s : State) (q : Request) : State × Answer :=
  match Settings.ofData q.data with
  | none => (s, .plain .badValue 0)
  | some g =>
    if s.settingsRefused g then (s, .plain .badValue 0)
    else
      let t : State := { s with settings := g }
      (if g.source = s.settings.source then t else t.restartLock, .ofChange (g != s.settings))

end Sys2Proof.Machine
end

