-- ==== Sys2Proof/Machine/Items.lean ====
section
/-! DEFINITION. What a READ returns for each item class (10, R168; the encodings of R188). -/

namespace Sys2Proof.Machine

/-- The IDENT entry. -/
def State.identOctets (s : State) : List Octet :=
  wordOctets Config.vendorCode ++ wordOctets Config.partCode ++ [Config.revision, s.nodeAddress.setWidth 8]
    ++ Config.capacities.flatMap wordOctets

/-- The STATUS entry; the holder is FFh while the lease is FREE. -/
def State.statusOctets (s : State) : List Octet :=
  [s.lock.state.code] ++ wordOctets s.timer.number
    ++ [s.engine.code, s.banks.activeNumber.code, s.banks.condition.code]
    ++ wordOctets (BitVec.ofNat 16 s.free)
    ++ [s.lease.state.code, match s.lease.state, s.lease.holder with | .held, some m => m.setWidth 8 | _, _ => 0xFF]
    ++ wordOctets s.lease.epoch

/-- The PORT entry (R144). -/
def State.portOctets (s : State) : List Octet :=
  [s.uIn.status.code, s.dIn.status.code] ++ s.ports.words.flatMap wordOctets

/-- Entry `k` of a class as it stands (R168). The index lies within the class when a READ reaches this. -/
def State.entryOctets (s : State) (cls : ItemClass) (k : Nat) : List Octet :=
  match cls with
  | .ident => s.identOctets
  | .status => s.statusOctets
  | .settings => s.settings.octets
  | .port => s.portOctets
  | .map => wordOctets (s.mapEntry (BitVec.ofNat 12 k)).word
  | .recordConfig => (s.record (BitVec.ofNat 8 k)).config.octets
  | .recordStatus => (s.record (BitVec.ofNat 8 k)).statusOctets
  | .recordCounters => (s.record (BitVec.ofNat 8 k)).counters.octets
  | .activeSlot => wordOctets (s.banks.active.entry k).word
  | .shadowSlot => wordOctets (s.banks.shadow.entry k).word
  | .bankLength => wordOctets (BitVec.ofNat 16 (if k = 0 then s.banks.active.length else s.banks.shadow.length))
  | .line => (s.line (BitVec.ofNat 3 k)).octets

/-- The answer of a READ that passes its checks: OK, the count, and the entries in index order (R167, R168). -/
def State.readAnswer (s : State) (cls : ItemClass) (q : Request) : Answer :=
  { status := .ok, detail := 0, count := q.count
    data := packData ((List.range q.count.toNat).flatMap fun j => s.entryOctets cls (q.first.toNat + j)) }

end Sys2Proof.Machine
end

