-- ==== Sys2Proof/Machine/Records.lean ====
section
/-! DEFINITION. The Stream Map and the Stream Table (02): the map write, the configuration write and the record commands,
each after the agent's checks. -/

namespace Sys2Proof.Machine

/-! ### MAP writes (R17, R18) -/

/-- The entries of a MAP write: identifier and written word. -/
def mapWrites (q : Request) : List (StreamId × Word16) :=
  (List.range q.count.toNat).map fun j => ((q.first + BitVec.ofNat 16 j).setWidth 12, dataWord q.data (2 * j))

/-- The check of one entry; `seen` are the records that earlier entries of the write name (R17). -/
def State.mapRefusal (s : State) (id : StreamId) (e : MapEntry) (seen : List RecordIndex) : Option Status :=
  match e with
  | .pass | .drop => none
  | .bound r =>
    if (s.record r).state = .unused then some .badValue
    else if (s.record r).bound ≠ none ∧ (s.record r).bound ≠ some id then some .inUse
    else if seen.contains r then some .inUse
    else none

/-- The records a written entry names, for the entries after it. -/
def MapEntry.noteIn (e : MapEntry) (seen : List RecordIndex) : List RecordIndex :=
  match e with
  | .bound r => r :: seen
  | .pass | .drop => seen

/-- The first refused entry, in identifier order: its status and its identifier (R17). -/
def State.mapCheck (s : State) : List (StreamId × Word16) → List RecordIndex → Option (Status × StreamId)
  | [], _ => none
  | (id, w) :: rest, seen =>
    match MapEntry.ofWord w with
    | none => some (.badValue, id)
    | some e => match s.mapRefusal id e seen with
      | some status => some (status, id)
      | none => s.mapCheck rest (e.noteIn seen)

/-- The record unbound (R18). -/
def State.unbind (s : State) (r : RecordIndex) : State := s.setRecord r { s.record r with bound := none }

/-- The record bound to an identifier (R18). -/
def State.bind (s : State) (r : RecordIndex) (id : StreamId) : State := s.setRecord r { s.record r with bound := some id }

/-- One entry takes its new value, and the records it bound and binds change with it (R18). -/
def State.rebind (s : State) (id : StreamId) (e : MapEntry) : State :=
  if s.mapEntry id = e then s
  else
    let t : State := match s.mapEntry id with
      | .bound r => s.unbind r
      | .pass | .drop => s
    let u : State := match e with
      | .bound r => t.bind r id
      | .pass | .drop => t
    u.setMapEntry id e

/-- Every entry of a checked map write applied (R18). -/
def State.applyMap (s : State) : List (StreamId × Word16) → State
  | [] => s
  | (id, w) :: rest => match MapEntry.ofWord w with
    | some e => (s.rebind id e).applyMap rest
    | none => s.applyMap rest

/-- WRITE_MAP after the agent's checks (R17). -/
def State.doWriteMap (s : State) (q : Request) : State × Answer :=
  let writes := mapWrites q
  match s.mapCheck writes [] with
  | some (status, id) => (s, .plain status (id.setWidth 16))
  | none => (s.applyMap writes, .ofChange (writes.any fun e => MapEntry.ofWord e.2 != some (s.mapEntry e.1)))

/-! ### RECORD_CONFIG writes (R20) -/

/-- The entries of a RECORD_CONFIG write: record and written configuration, none when a field is out of range. -/
def configWrites (q : Request) : List (RecordIndex × Option RecordConfig) :=
  (List.range q.count.toNat).map fun j => ((q.first + BitVec.ofNat 16 j).setWidth 8, RecordConfig.ofData q.data (6 * j))

/-- The check of one record: its state, then its fields (R20). -/
def State.configRefusal (s : State) (e : RecordIndex × Option RecordConfig) : Option Status :=
  if (s.record e.1).state ≠ .unused ∧ (s.record e.1).state ≠ .idle then some .wrongState
  else if e.2.isNone then some .badValue
  else none

/-- The record under its new configuration: an UNUSED record is allocated (R20). -/
def Record.configure (x : Record) (c : RecordConfig) : Record :=
  match x.state with
  | .unused => { state := .idle, bound := none, config := c, misses := 0, lastValue := none, queue := [], counters := .zero }
  | _ => { x with config := c }

/-- Every record of a checked configuration write changed (R20). -/
def State.applyConfigs (s : State) : List (RecordIndex × Option RecordConfig) → State
  | [] => s
  | (r, some c) :: rest => (s.setRecord r ((s.record r).configure c)).applyConfigs rest
  | (_, none) :: rest => s.applyConfigs rest

/-- WRITE_RECORD_CONFIG after the agent's checks (R20). -/
def State.doWriteConfig (s : State) (q : Request) : State × Answer :=
  let writes := configWrites q
  match writes.find? fun e => (s.configRefusal e).isSome with
  | some e => (s, .plain ((s.configRefusal e).getD .badValue) (e.1.setWidth 16))
  | none =>
    (s.applyConfigs writes,
     .ofChange (writes.any fun e => (s.record e.1).state == .unused || e.2 != some (s.record e.1).config))

/-! ### Record commands (R22 to R28) -/

/-- WRONG_STATE with the record's state in the detail (R22). -/
def Record.wrongState (x : Record) : Answer := .plain .wrongState (x.state.code.setWidth 16)

/-- FILL (R22, R23). -/
def State.doFill (s : State) (r : RecordIndex) : State × Answer :=
  let x := s.record r
  match x.state with
  | .idle | .faulted => (s.setRecord r { x with state := .filling }, .ok)
  | .filling => (s, .noChange)
  | .unused | .starting | .running | .paused => (s, x.wrongState)

/-- START (R22, R24). -/
def State.doStart (s : State) (r : RecordIndex) : State × Answer :=
  let x := s.record r
  match x.state with
  | .idle | .filling | .faulted =>
    ((s.setRecord r { x with state := .starting, misses := 0 }).eachLine (Line.safeFor r), .ok)
  | .starting | .running => (s, .noChange)
  | .unused | .paused => (s, x.wrongState)

/-- PAUSE (R22, R25). -/
def State.doPause (s : State) (r : RecordIndex) : State × Answer :=
  let x := s.record r
  match x.state with
  | .running => (s.setRecord r { x with state := .paused }, .ok)
  | .paused => (s, .noChange)
  | .unused | .idle | .filling | .starting | .faulted => (s, x.wrongState)

/-- RESUME (R22, R25). -/
def State.doResume (s : State) (r : RecordIndex) : State × Answer :=
  let x := s.record r
  match x.state with
  | .paused => (s.setRecord r { x with state := .running }, .ok)
  | .running => (s, .noChange)
  | .unused | .idle | .filling | .starting | .faulted => (s, x.wrongState)

/-- The record made IDLE by a STOP: queue flushed, misses 0, last value cleared, lines SAFE (R26). -/
def State.stopRecord (s : State) (r : RecordIndex) : State :=
  let t := s.flushQueue r
  (t.setRecord r { t.record r with state := .idle, misses := 0, lastValue := none }).eachLine (Line.safeFor r)

/-- STOP (R22, R26). In FAULTED the queue is already empty and the last value already absent. -/
def State.doStop (s : State) (r : RecordIndex) : State × Answer :=
  let x := s.record r
  match x.state with
  | .filling | .starting | .running | .paused | .faulted => (s.stopRecord r, .ok)
  | .idle => (s, .noChange)
  | .unused => (s, x.wrongState)

/-- The record made UNUSED by a RELEASE: its map entry becomes DROP and its lines DISABLED (R27). -/
def State.releaseRecord (s : State) (r : RecordIndex) : State :=
  let t : State := match (s.record r).bound with
    | some id => s.setMapEntry id .drop
    | none => s
  (t.setRecord r .unused).eachLine (Line.disableFor r)

/-- RELEASE (R22, R27). -/
def State.doRelease (s : State) (r : RecordIndex) : State × Answer :=
  let x := s.record r
  match x.state with
  | .idle => match s.banks.firstNaming r with
    | some k => (s, .plain .inUse (BitVec.ofNat 16 k))
    | none => (s.releaseRecord r, .ok)
  | .unused => (s, .noChange)
  | .filling | .starting | .running | .paused | .faulted => (s, x.wrongState)

/-- CLEAR_COUNTERS (R28). -/
def State.doClearCounters (s : State) (r : RecordIndex) : State × Answer :=
  let x := s.record r
  match x.state with
  | .unused => (s, x.wrongState)
  | .idle | .filling | .starting | .running | .paused | .faulted =>
    (s.setRecord r { x with counters := .zero }, .ofChange (x.counters != .zero))

end Sys2Proof.Machine
end

