-- ==== Sys2Proof/Machine/Reset.lean ====
section
/-! DEFINITION. The resets: power-on, the reset pin, RESET_FULL and RESET_SOFT, each as one happening over all blocks. -/

namespace Sys2Proof.Machine

/-- Argument codes of STARTED_UP (12.4). -/
inductive StartReason where
  | powerOn | full
deriving DecidableEq, Repr

/-- See `StartReason`. -/
def StartReason.code : StartReason → Word16
  | .powerOn => 0 | .full => 1

/-- Every block in its power-on state at the present tick, the straps sampled, cycle 0 begun, and STARTED_UP offered to the
empty Event Queue (R11, R12, R135, R157, R173, R174). The waiting commands stay. -/
def State.restart (s : State) (straps : Address) (why : StartReason) : State :=
  ({ State.cleared s.now straps with pending := s.pending } : State).offerEvent .startedUp none (some why.code)

/-- The reset pin asserted: the cells in flight are cut off and the buffer freed, a running engine halts, and while the pin
is held the timer does not run and the outputs send fill (R11, R79, R97, R136, R146). -/
def State.holdPin (s : State) : State :=
  { s.endFlight.haltEngine with uOut := none, pinHeld := true }

/-- RESET_SOFT up to its reply: records, pool, engine, lines, banks, Through FIFO, Event Queue, lost marker, Reply Queue,
Reply Cache and last-winner flag, then the lock restarts and its LOCK_STATE event enters the cleared queue (R38, R54, R75,
R98, R111, R132, R147, R150, R152, R157, R159, R172). -/
def State.softReset (s : State) : State :=
  let t := (s.softFlush.haltEngine.eachLine Line.halt).withBanks Banks.softReset
  ({ t with through := [], events := [], lost := false, replies := [], cache := Vector.replicate 4 none, lastWinner := .own } :
    State).restartLock

end Sys2Proof.Machine
end

