-- ==== Sys2Proof/Machine/Agent.lean ====
section
/-! DEFINITION. The Management Agent (10): what a REQ cell asks for, the eight steps of taking a request, and the reply. -/

namespace Sys2Proof.Machine

/-- The record commands (R22). -/
inductive RecordCommand where
  | fill | start | pause | resume | stop | release | clearCounters
deriving DecidableEq, Repr

/-- The lease operations (R177). -/
inductive LeaseOperation where
  | acquire | renew | release | claim
deriving DecidableEq, Repr

/-- What a request asks for, after its operation and its class or code are decoded (R163, checks 1 and 2). -/
inductive Ask where
  /-- an operation, command or lease operation code that names nothing -/
  | badOperation
  /-- a READ or WRITE of a class code that names nothing -/
  | badClass
  | read (cls : ItemClass)
  | write (cls : ItemClass)
  | record (command : RecordCommand)
  | copy
  | swap
  | swapAt
  | swapCancel
  | restartLock
  | clearPortCounters
  | resetSoft
  | resetFull
  | lease (operation : LeaseOperation)
deriving DecidableEq, Repr

/-! ### Codes (12.3) -/

/-- Operation codes. -/
def opRead : BitVec 4 := 0
/-- See `opRead`. -/
def opWrite : BitVec 4 := 1
/-- See `opRead`. -/
def opCommand : BitVec 4 := 2
/-- See `opRead`. -/
def opLease : BitVec 4 := 3

/-- Command codes of record commands. -/
def RecordCommand.code : RecordCommand → Octet
  | .fill => 0x01 | .start => 0x02 | .pause => 0x03 | .resume => 0x04 | .stop => 0x05 | .release => 0x06 | .clearCounters => 0x07

/-- Lease operation codes. -/
def LeaseOperation.code : LeaseOperation → Octet
  | .acquire => 0 | .renew => 1 | .release => 2 | .claim => 3

/-- The operation code of a request; a request that names nothing has none of its own. -/
def Ask.operation : Ask → BitVec 4
  | .read _ => opRead
  | .write _ => opWrite
  | .record _ | .copy | .swap | .swapAt | .swapCancel | .restartLock | .clearPortCounters | .resetSoft | .resetFull => opCommand
  | .lease _ => opLease
  | .badOperation => 0xF
  | .badClass => opRead

/-- The class, command or lease operation code of a request. -/
def Ask.code : Ask → Octet
  | .read cls | .write cls => cls.code
  | .record c => c.code
  | .copy => 0x10 | .swap => 0x11 | .swapAt => 0x12 | .swapCancel => 0x13
  | .restartLock => 0x20 | .clearPortCounters => 0x21 | .resetSoft => 0x30 | .resetFull => 0x31
  | .lease o => o.code
  | .badOperation | .badClass => 0xFF

/-- The command a code names. -/
def commandOfCode (o : Octet) : Ask :=
  if o = 0x01 then .record .fill else if o = 0x02 then .record .start else if o = 0x03 then .record .pause
  else if o = 0x04 then .record .resume else if o = 0x05 then .record .stop else if o = 0x06 then .record .release
  else if o = 0x07 then .record .clearCounters else if o = 0x10 then .copy else if o = 0x11 then .swap
  else if o = 0x12 then .swapAt else if o = 0x13 then .swapCancel else if o = 0x20 then .restartLock
  else if o = 0x21 then .clearPortCounters else if o = 0x30 then .resetSoft else if o = 0x31 then .resetFull
  else .badOperation

/-- The lease operation a code names. -/
def leaseOfCode (o : Octet) : Ask :=
  if o = 0 then .lease .acquire else if o = 1 then .lease .renew else if o = 2 then .lease .release
  else if o = 3 then .lease .claim else .badOperation

/-- What an operation code and a class or code ask for (R163, checks 1 and 2). -/
def askOf (op : BitVec 4) (code : Octet) : Ask :=
  if op = opRead then (match ItemClass.ofCode code with | some cls => .read cls | none => .badClass)
  else if op = opWrite then (match ItemClass.ofCode code with | some cls => .write cls | none => .badClass)
  else if op = opCommand then commandOfCode code
  else if op = opLease then leaseOfCode code
  else .badOperation

/-! ### Step 3: the form of a request (R163) -/

/-- The count and index checks of a READ or WRITE: none when they pass (R163, check 4). -/
def rangeRefusal (cls : ItemClass) (q : Request) : Option Answer :=
  if q.count.toNat = 0 ∨ cls.maxCount < q.count.toNat then some (.plain .badItem 0)
  else if cls.size < q.first.toNat + q.count.toNat then some (.plain .badItem (BitVec.ofNat 16 (max cls.size q.first.toNat)))
  else none

/-- The class whose entry 0 is not written (R60, R61). -/
def guardsEntryZero : ItemClass → Bool
  | .shadowSlot | .bankLength => true
  | .ident | .status | .settings | .port | .map | .recordConfig | .recordStatus | .recordCounters | .activeSlot | .line => false

/-- The checks of step 3: the refusal, or none when the request goes on (R163). -/
def Ask.formRefusal (a : Ask) (q : Request) : Option Answer :=
  match a with
  | .badOperation => some (.plain .badOperation 0)
  | .badClass => some (.plain .badItem 0)
  | .read cls => rangeRefusal cls q
  | .write cls =>
    if cls.readOnly then some (.plain .badOperation 0)
    else match rangeRefusal cls q with
      | some r => some r
      | none => if guardsEntryZero cls && q.first == 0 then some (.plain .badItem 0) else none
  | .record _ => if 255 < q.first.toNat ∨ q.count ≠ 1 then some (.plain .badItem 0) else none
  | .copy | .swap | .swapAt | .swapCancel | .restartLock | .clearPortCounters | .resetSoft | .resetFull | .lease _ => none

/-! ### Steps 4 and 5: broadcast and lease (R164, R165) -/

/-- Requests refused on broadcast: a WRITE, any LEASE request, RESET_SOFT and RESET_FULL (R164). -/
def Ask.barredOnBroadcast : Ask → Bool
  | .write _ | .lease _ | .resetSoft | .resetFull => true
  | .badOperation | .badClass | .read _ | .record _ | .copy | .swap | .swapAt | .swapCancel | .restartLock | .clearPortCounters => false

/-- Requests judged against the lease: a WRITE or a COMMAND (R165). -/
def Ask.judgedByLease : Ask → Bool
  | .write _ | .record _ | .copy | .swap | .swapAt | .swapCancel | .restartLock | .clearPortCounters | .resetSoft | .resetFull => true
  | .badOperation | .badClass | .read _ | .lease _ => false

/-- The refusal of steps 3 to 5, the first that applies (R163, R164, R165). -/
def State.refusalOf (s : State) (broadcast : Bool) (a : Ask) (q : Request) : Option Answer :=
  match a.formRefusal q with
  | some r => some r
  | none =>
    if broadcast && a.barredOnBroadcast then some (.plain .notOnBroadcast 0)
    else if a.judgedByLease then s.lease.refusal q.manager q.epoch (!broadcast)
    else none

/-! ### Steps 6 to 8: execution by the owning block (R166, R169, R171) -/

/-- The record a record command names. -/
def recordOf (q : Request) : RecordIndex := q.first.setWidth 8

/-- CLEAR_PORT_COUNTERS (R144). -/
def State.doClearPorts (s : State) : State × Answer :=
  ({ s with ports := .zero }, .ofChange (s.ports != .zero))

/-- A WRITE executed by the owner of its class (R169). A read-only class does not reach this. -/
def State.executeWrite (s : State) (cls : ItemClass) (q : Request) : State × Answer :=
  match cls with
  | .map => s.doWriteMap q
  | .recordConfig => s.doWriteConfig q
  | .shadowSlot => s.writeShadow q
  | .bankLength => s.writeLength q
  | .line => s.doWriteLine q
  | .settings => s.doWriteSettings q
  | .ident | .status | .port | .recordStatus | .recordCounters | .activeSlot => (s, .plain .badOperation 0)

/-- A record command executed (R22 to R28). -/
def State.executeRecord (s : State) (c : RecordCommand) (r : RecordIndex) : State × Answer :=
  match c with
  | .fill => s.doFill r
  | .start => s.doStart r
  | .pause => s.doPause r
  | .resume => s.doResume r
  | .stop => s.doStop r
  | .release => s.doRelease r
  | .clearCounters => s.doClearCounters r

/-- A lease operation executed (R177). -/
def State.executeLease (s : State) (o : LeaseOperation) (q : Request) : State × Answer :=
  match o with
  | .acquire => s.doAcquire q
  | .renew => s.doRenew q
  | .release => s.doLeaseRelease q
  | .claim => s.doClaim q

/-- A request that passes steps 1 to 5 executed by the owning block (R166, R168, R169, R171). -/
def State.execute (s : State) (a : Ask) (q : Request) (straps : Address) : State × Answer :=
  match a with
  | .read cls => (s, s.readAnswer cls q)
  | .write cls => s.executeWrite cls q
  | .record c => s.executeRecord c (recordOf q)
  | .copy => s.askCopy
  | .swap => s.askSwap .nextBoundary
  | .swapAt => s.askSwap (.cycle (dataWord q.data 0))
  | .swapCancel => s.cancelSwap
  | .restartLock => (s.restartLock, .ok)
  | .clearPortCounters => s.doClearPorts
  | .resetSoft => (s.softReset, .ok)
  | .resetFull => (s.restart straps .full, .ok)
  | .lease o => s.executeLease o q
  | .badOperation => (s, .plain .badOperation 0)
  | .badClass => (s, .plain .badItem 0)

/-- Steps 3 to 8: the state and the answer (R163 to R166). -/
def State.answer (s : State) (broadcast : Bool) (a : Ask) (q : Request) (straps : Address) : State × Answer :=
  match s.refusalOf broadcast a q with
  | some r => (s, r)
  | none => s.execute a q straps

/-- The reply queued and cached (R167). -/
def State.reply (s : State) (q : Request) (a : Answer) : State :=
  (s.pushReply (a.record q.manager q.tag)).cacheReply (a.record q.manager q.tag)

/-- The request dropped: counted, REPLY_DROPPED offered, nothing else (R161). -/
def State.dropRequest (s : State) (q : Request) : State :=
  (s.count .replyDrop).offerEvent .replyDropped (some (managerObject q.manager)) (some (q.tag.setWidth 16))

/-- The manager's cache entry, when it holds the request's tag (R162). -/
def State.repeated (s : State) (q : Request) : Option Reply :=
  match s.cached q.manager with
  | some r => if r.tag = q.tag then some r else none
  | none => none

/-- A request taken: reply room, Reply Cache, then steps 3 to 8 and the reply (10, section 10.2). -/
def State.takeRequest (s : State) (broadcast : Bool) (a : Ask) (q : Request) (straps : Address) : State :=
  if Config.replyLimit ≤ s.replies.length then s.dropRequest q
  else match s.repeated q with
    | some r => s.pushReply r
    | none => (s.answer broadcast a q straps).1.reply q (s.answer broadcast a q straps).2

end Sys2Proof.Machine
end

