-- ==== Sys2Proof/Machine/Ports.lean ====
section
/-! DEFINITION. The Line Ports (08): valid arrivals, checking, counting and routing on both input sides, cut-short cells,
loss of signal, and the Through FIFO's intake (09). -/

namespace Sys2Proof.Machine

/-- A side as an event object (R141). -/
def Side.object : Side → BitVec 8
  | .uIn => 0 | .dIn => 1

/-- LINK_CHANGE of a side with its new status (R141, R142). -/
def State.reportLink (s : State) (side : Side) (status : LinkStatus) : State :=
  s.offerEvent .linkChange (some (Side.object side)) (some (status.code.setWidth 16))

/-- A valid cell arrives: the loss timer starts from this tick, and a DOWN side becomes UP with LINK_CHANGE (R142). -/
def State.validArrival (s : State) (side : Side) : State :=
  let t := s.setLink side { status := .up, lastValid := some s.now }
  match (s.link side).status with
  | .up => t
  | .down => t.reportLink side .up

/-- A good cell arrives: valid, and counted once (R137, R142). Its LINK_CHANGE is offered here, before every event of the
cell's route (log 24). -/
def State.goodArrival (s : State) (side : Side) : State := (s.validArrival side).count (·.good side)

/-- The tick at which the loss timer of a side runs out; none while it is stopped (R141). -/
def Link.lossTick (l : Link) : Option Nat :=
  match l.status with
  | .up => l.lastValid.map (· + Config.lossTicks)
  | .down => none

/-- The loss timer runs out: DOWN, stopped, LINK_CHANGE with argument DOWN (R141). -/
def State.loseLink (s : State) (side : Side) : State :=
  (s.setLink side { status := .down, lastValid := none }).reportLink side .down

/-- A good DATA cell on U-in classified by its map entry (R16). -/
def State.takeData (s : State) (c : Cell) : State :=
  match s.mapEntry (streamOf c) with
  | .pass => s.offerPass c
  | .drop => s.count .mapDrop
  | .bound r => s.offerRecord r c

/-- A good REQ cell on U-in routed by its destination (R139). For a broadcast cell both offers are judged on the state the
arrival finds; the agent acts first, then the Pass Queue's verdict is carried out (log 6). -/
def State.routeRequest (s : State) (a : Ask) (c : Cell) (q : Request) (straps : Address) : State :=
  if q.dest = Config.broadcast then (s.takeRequest true a q straps).applyPass s.passVerdict c
  else if q.dest = s.nodeAddress then s.takeRequest false a q straps
  else s.offerPass c

/-- A cell offered to the Through FIFO (R148). -/
def State.offerThrough (s : State) (c : Cell) : State :=
  if s.through.length < Config.throughLimit then { s with through := s.through ++ [c] }
  else (s.count .throughDrop).offerEvent .throughOverflow none none

/-- A good cell on U-in handed on by its kind (R138). -/
def State.routeUIn (s : State) (c : Cell) (straps : Address) : State :=
  if kindOf c = kindSync then s.takeSync (numberOf c)
  else if kindOf c = kindData then s.takeData c
  else if kindOf c = kindReq then s.routeRequest (askOf (operationOf c) (itemCodeOf c)) c (requestOf c) straps
  else if kindOf c = kindRep ∨ kindOf c = kindEvt then s.count .unexpected
  else s

/-- A good cell on D-in handed on by its kind (R140). -/
def State.routeDIn (s : State) (c : Cell) : State :=
  if kindOf c = kindData ∨ kindOf c = kindRep ∨ kindOf c = kindEvt then s.offerThrough c
  else if kindOf c = kindReq ∨ kindOf c = kindSync then s.count .discarded
  else s

/-- A cell completes on a side: checked, counted, and discarded or routed (R137). -/
def State.receive (s : State) (side : Side) (c : Cell) (straps : Address) : State :=
  if !passesCheck c then s.count (·.bad side)
  else if kindOf c = 6 ∨ kindOf c = 7 then (s.validArrival side).count (·.unknown side)
  else match side with
    | .uIn => (s.goodArrival .uIn).routeUIn c straps
    | .dIn => (s.goodArrival .dIn).routeDIn c

/-- An outside happening `dt` ticks after the last one. While the reset pin is held nothing is received (R136): only the
ticks pass (log 8). -/
def State.outside (s : State) (dt : Nat) (f : State → State) : State :=
  if s.pinHeld then s.passTime dt else f (s.passTime dt)

/-- A request's REQ cell arrives whole and good on U-in: counted, and routed by its destination (R137, R139, R144). -/
def State.requestArrival (s : State) (dt : Nat) (a : Ask) (q : Request) (straps : Address) : State :=
  s.outside dt fun t => (t.goodArrival .uIn).routeRequest a (requestCell a.operation a.code q) q straps

end Sys2Proof.Machine
end

