-- ==== Sys2Proof/Machine/Cycle.lean ====
section
/-! DEFINITION. The happenings of the gate's own clock: when each is scheduled, the tick it falls on, and what it does. A
happening that is not scheduled does not happen (log 3). -/

namespace Sys2Proof.Machine

/-- A happening of the gate's own clock: none is produced while the reset pin is held (R11). -/
def State.clocked (s : State) (f : State → State) : State := if s.pinHeld then s else f s

/-! ### Slots, guard and boundary (R2, R7, R48, R82) -/

/-- The slot that starts next: the one after the slot in progress, when it runs (R2, R9). -/
def State.nextSlot (s : State) : Option Nat :=
  match s.timer.position with
  | .slot k => if s.timer.slotRuns (k + 1) then some (k + 1) else none
  | .guard => none

/-- The tick the guard starts on: the end of the slot in progress, when no other slot follows it (R2, R9). -/
def State.guardTick (s : State) : Option Nat :=
  match s.timer.position with
  | .slot k => if s.timer.slotRuns (k + 1) then none else some (s.timer.slotEnd k)
  | .guard => none

/-- The timer at a position. -/
def State.atPosition (s : State) (p : Position) : State := { s with timer := { s.timer with position := p } }

/-- Slot `k` starts: the slot before it ends, then its cell is chosen (R48, R82). -/
def State.beginSlot (s : State) (k : Nat) : State :=
  (((s.reach (s.timer.slotTick k)).endSlot).atPosition (.slot k)).fillSlot k

/-- The guard starts at tick `t`: the last slot ends and both outputs send fill (R2, R6, R145). -/
def State.beginGuard (s : State) (t : Nat) : State :=
  { ((s.reach t).endSlot).atPosition .guard with uOut := none }

/-- The length of a cycle run on this active bank (R3). -/
def Bank.cycleLength (b : Bank) : Nat := if b.valid then b.length else Config.idleLength

/-- The timer's and the banks' part of a boundary: the new cycle's number, a pending swap taken on that number, N, guard
base and trim (R3, R7, R67, R68). -/
def State.turnCycle (s : State) : State :=
  let banks := s.banks.atBoundary s.timer.nextCycle
  { s with banks := banks, timer := s.timer.boundary banks.active.cycleLength s.settings.guard, uBegun := 0 }

/-- SWAP_DONE, when the boundary took a swap, with the new active bank as argument (R68). -/
def State.reportSwap (s : State) (taken : Bool) : State :=
  if taken then s.offerEvent .swapDone none (some (s.banks.activeNumber.code.setWidth 16)) else s

/-- A cycle boundary: timer and banks, engine decision, promotion, and slot 0 (R7, R30, R68, R78, R82). -/
def State.boundary (s : State) : State :=
  let t := (s.reach s.timer.boundaryTick).endFlight
  ((((t.turnCycle).reportSwap (t.banks.condition.takenAt t.timer.nextCycle)).decideEngine).promote).fillSlotZero

/-! ### U-out (R149) -/

/-- Cell time `k` begins (R149). -/
def State.beginCellTime (s : State) (k : Nat) : State :=
  ({ s.reach (s.timer.slotTick k) with uBegun := k + 1 } : State).fillCellTime k

/-! ### Copies (R63) -/

/-- A copy step before the last. -/
def State.stepCopy (s : State) (takenAt done : Nat) : State :=
  (s.reach (copyStepTick takenAt done)).withBanks (·.copyStep takenAt done)

/-- The last copy step, with COPY_DONE. -/
def State.completeCopy (s : State) (takenAt done : Nat) : State :=
  ((s.reach (copyStepTick takenAt done)).withBanks (·.finishCopy done)).offerEvent .copyDone none none

/-! ### Sync windows (R116) -/

/-- The window opens. -/
def State.openWindow (s : State) (w : Window) : State :=
  { s.reach w.opening with lock := { s.lock with window := some { w with isOpen := true } } }

/-- The window ends. -/
def State.closeWindow (s : State) (w : Window) : State := (s.reach w.ending).endWindow w

/-! ### What a command does when it is scheduled -/

/-- LOSS_TIMER_EXPIRY (R141). -/
def State.lossTimer (s : State) (side : Side) : State :=
  match (s.link side).lossTick with
  | some t => (s.reach t).loseLink side
  | none => s

/-- COPY_STEP: one of steps 1..63 (R63). -/
def State.copyTick (s : State) : State :=
  match s.banks.condition with
  | .copying takenAt done => if done + 1 < Config.copySteps then s.stepCopy takenAt done else s
  | .free | .swapPending _ => s

/-- COPY_COMPLETION: step 64 (R63). -/
def State.copyEnd (s : State) : State :=
  match s.banks.condition with
  | .copying takenAt done => if done + 1 < Config.copySteps then s else s.completeCopy takenAt done
  | .free | .swapPending _ => s

/-- LEASE_UNIT_STEP: a step that leaves the countdown above 0 (R176). -/
def State.leaseTick (s : State) : State :=
  match s.lease.state, s.lease.countdown with
  | .held, some n => if 1 < n then (s.reach s.lease.stepTick).setLease (s.lease.unitStep n) else s
  | _, _ => s

/-- LEASE_EXPIRY: the step that brings the countdown to 0 (R176, R183). -/
def State.leaseEnd (s : State) : State :=
  match s.lease.state, s.lease.countdown with
  | .held, some n => if 1 < n then s else (s.reach s.lease.stepTick).expireLease
  | _, _ => s

/-- CYCLE_BOUNDARY: it ends the guard (R2, R7). -/
def State.boundaryDue (s : State) : State :=
  match s.timer.position with
  | .guard => s.boundary
  | .slot _ => s

/-- SLOT_START (R82). -/
def State.slotDue (s : State) : State :=
  match s.nextSlot with
  | some k => s.beginSlot k
  | none => s

/-- GUARD_START (R2). -/
def State.guardDue (s : State) : State :=
  match s.guardTick with
  | some t => s.beginGuard t
  | none => s

/-- CELL_TIME_START (R149). -/
def State.cellTimeDue (s : State) : State :=
  match s.nextCellTime with
  | some k => s.beginCellTime k
  | none => s

/-- SYNC_WINDOW_OPEN (R116). -/
def State.windowOpenDue (s : State) : State :=
  match s.lock.window with
  | some w => if w.isOpen then s else s.openWindow w
  | none => s

/-- SYNC_WINDOW_END (R116). -/
def State.windowEndDue (s : State) : State :=
  match s.lock.window with
  | some w => if w.isOpen then s.closeWindow w else s
  | none => s

end Sys2Proof.Machine
end

