-- ==== Sys2Proof/Machine/Happenings.lean ====
section
/-! DEFINITION. The meanings of the commands that are not requests: power and pins, arrivals, and the happenings of the
gate's own clock. -/

namespace Sys2Proof.Machine

/-! ### Power and pins -/

/-- POWER_ON (R11): every block in its reset state, with the reset pin held until RESET_PIN_RELEASE, as it must be through
power-on (12.5); so both outputs send fill and the line pins are LOW until then (R102, R146, log 9). -/
def execPowerOn (dt : Nat) (straps : Address) (s : State) : Host.Outcome State Fault Refusal :=
  .next { (s.passTime dt).restart straps .powerOn with pinHeld := true }

/-- RESET_PIN_ASSERT (R97). -/
def execResetPinAssert (dt : Nat) (s : State) : Host.Outcome State Fault Refusal :=
  .next (s.passTime dt).holdPin

/-- RESET_PIN_RELEASE (R11): the straps sampled, every block in its reset state, cycle 0 begun. -/
def execResetPinRelease (dt : Nat) (straps : Address) (s : State) : Host.Outcome State Fault Refusal :=
  .next ((s.passTime dt).restart straps .powerOn)

/-! ### Arrivals -/

/-- CELL_ARRIVAL (R137): any cell on either side, checked, counted and routed. -/
def execCellArrival (dt : Nat) (side : Side) (cell : Cell) (straps : Address) (s : State) : Host.Outcome State Fault Refusal :=
  .next (s.outside dt fun t => t.receive side cell straps)

/-- CELL_CUT_SHORT (R136): counted bad, not routed, not valid. -/
def execCellCutShort (dt : Nat) (side : Side) (s : State) : Host.Outcome State Fault Refusal :=
  .next (s.outside dt fun t => t.count (·.bad side))

/-- DATA_ARRIVAL (R16): the whole arrival of a good DATA cell on U-in (log 5). -/
def execDataArrival (dt : Nat) (cell : Cell) (s : State) : Host.Outcome State Fault Refusal :=
  .next (s.outside dt fun t => (t.goodArrival .uIn).takeData cell)

/-- SYNC_ARRIVAL (R117): the whole arrival of a good SYNC cell on U-in (log 5). -/
def execSyncArrival (dt : Nat) (number : Word16) (s : State) : Host.Outcome State Fault Refusal :=
  .next (s.outside dt fun t => (t.goodArrival .uIn).takeSync number)

/-- D_IN_ARRIVAL (R140): the whole arrival of a good cell on D-in (log 5). -/
def execDInArrival (dt : Nat) (cell : Cell) (s : State) : Host.Outcome State Fault Refusal :=
  .next (s.outside dt fun t => (t.goodArrival .dIn).routeDIn cell)

/-! ### The gate's own clock -/

/-- LOSS_TIMER_EXPIRY (R141). -/
def execLossTimerExpiry (side : Side) (s : State) : Host.Outcome State Fault Refusal :=
  .next (s.clocked (fun t => t.lossTimer side))

/-- COPY_STEP (R63). -/
def execCopyStep (s : State) : Host.Outcome State Fault Refusal :=
  .next (s.clocked State.copyTick)

/-- COPY_COMPLETION (R63). -/
def execCopyCompletion (s : State) : Host.Outcome State Fault Refusal :=
  .next (s.clocked State.copyEnd)

/-- LEASE_UNIT_STEP (R176). -/
def execLeaseUnitStep (s : State) : Host.Outcome State Fault Refusal :=
  .next (s.clocked State.leaseTick)

/-- LEASE_EXPIRY (R183). -/
def execLeaseExpiry (s : State) : Host.Outcome State Fault Refusal :=
  .next (s.clocked State.leaseEnd)

/-- CYCLE_BOUNDARY (R7). -/
def execCycleBoundary (s : State) : Host.Outcome State Fault Refusal :=
  .next (s.clocked State.boundaryDue)

/-- SLOT_START (R82). -/
def execSlotStart (s : State) : Host.Outcome State Fault Refusal :=
  .next (s.clocked State.slotDue)

/-- GUARD_START (R2). -/
def execGuardStart (s : State) : Host.Outcome State Fault Refusal :=
  .next (s.clocked State.guardDue)

/-- CELL_TIME_START (R149). -/
def execCellTimeStart (s : State) : Host.Outcome State Fault Refusal :=
  .next (s.clocked State.cellTimeDue)

/-- SYNC_WINDOW_OPEN (R116). -/
def execSyncWindowOpen (s : State) : Host.Outcome State Fault Refusal :=
  .next (s.clocked State.windowOpenDue)

/-- SYNC_WINDOW_END (R116). -/
def execSyncWindowEnd (s : State) : Host.Outcome State Fault Refusal :=
  .next (s.clocked State.windowEndDue)

end Sys2Proof.Machine
end

