-- ==== Sys2Proof/Machine/Requests.lean ====
section
/-! DEFINITION. The meanings of the request commands: each is the arrival of a good REQ cell on U-in (R139), taken by the
Management Agent when it is addressed to this gate or broadcast (10). -/

namespace Sys2Proof.Machine

/-- READ (R168). -/
def execRead (dt : Nat) (cls : ItemClass) (q : Request) (s : State) : Host.Outcome State Fault Refusal :=
  .next (s.requestArrival dt (.read cls) q s.straps)

/-- WRITE (R163). -/
def execWrite (dt : Nat) (cls : ItemClass) (q : Request) (s : State) : Host.Outcome State Fault Refusal :=
  .next (s.requestArrival dt (.write cls) q s.straps)

/-- WRITE_MAP (R17). -/
def execWriteMap (dt : Nat) (q : Request) (s : State) : Host.Outcome State Fault Refusal :=
  .next (s.requestArrival dt (.write .map) q s.straps)

/-- WRITE_RECORD_CONFIG (R20). -/
def execWriteRecordConfig (dt : Nat) (q : Request) (s : State) : Host.Outcome State Fault Refusal :=
  .next (s.requestArrival dt (.write .recordConfig) q s.straps)

/-- WRITE_SHADOW_SLOT (R60). -/
def execWriteShadowSlot (dt : Nat) (q : Request) (s : State) : Host.Outcome State Fault Refusal :=
  .next (s.requestArrival dt (.write .shadowSlot) q s.straps)

/-- WRITE_BANK_LENGTH (R61). -/
def execWriteBankLength (dt : Nat) (q : Request) (s : State) : Host.Outcome State Fault Refusal :=
  .next (s.requestArrival dt (.write .bankLength) q s.straps)

/-- WRITE_LINE (R103). -/
def execWriteLine (dt : Nat) (q : Request) (s : State) : Host.Outcome State Fault Refusal :=
  .next (s.requestArrival dt (.write .line) q s.straps)

/-- WRITE_SETTINGS (R170). -/
def execWriteSettings (dt : Nat) (q : Request) (s : State) : Host.Outcome State Fault Refusal :=
  .next (s.requestArrival dt (.write .settings) q s.straps)

/-- FILL (R23). -/
def execFill (dt : Nat) (q : Request) (s : State) : Host.Outcome State Fault Refusal :=
  .next (s.requestArrival dt (.record .fill) q s.straps)

/-- START (R24). -/
def execStart (dt : Nat) (q : Request) (s : State) : Host.Outcome State Fault Refusal :=
  .next (s.requestArrival dt (.record .start) q s.straps)

/-- PAUSE (R25). -/
def execPause (dt : Nat) (q : Request) (s : State) : Host.Outcome State Fault Refusal :=
  .next (s.requestArrival dt (.record .pause) q s.straps)

/-- RESUME (R25). -/
def execResume (dt : Nat) (q : Request) (s : State) : Host.Outcome State Fault Refusal :=
  .next (s.requestArrival dt (.record .resume) q s.straps)

/-- STOP (R26). -/
def execStop (dt : Nat) (q : Request) (s : State) : Host.Outcome State Fault Refusal :=
  .next (s.requestArrival dt (.record .stop) q s.straps)

/-- RELEASE (R27). -/
def execRelease (dt : Nat) (q : Request) (s : State) : Host.Outcome State Fault Refusal :=
  .next (s.requestArrival dt (.record .release) q s.straps)

/-- CLEAR_COUNTERS (R28). -/
def execClearCounters (dt : Nat) (q : Request) (s : State) : Host.Outcome State Fault Refusal :=
  .next (s.requestArrival dt (.record .clearCounters) q s.straps)

/-- COPY (R62). -/
def execCopy (dt : Nat) (q : Request) (s : State) : Host.Outcome State Fault Refusal :=
  .next (s.requestArrival dt .copy q s.straps)

/-- SWAP (R66). -/
def execSwap (dt : Nat) (q : Request) (s : State) : Host.Outcome State Fault Refusal :=
  .next (s.requestArrival dt .swap q s.straps)

/-- SWAP_AT (R67). -/
def execSwapAt (dt : Nat) (q : Request) (s : State) : Host.Outcome State Fault Refusal :=
  .next (s.requestArrival dt .swapAt q s.straps)

/-- SWAP_CANCEL (R71). -/
def execSwapCancel (dt : Nat) (q : Request) (s : State) : Host.Outcome State Fault Refusal :=
  .next (s.requestArrival dt .swapCancel q s.straps)

/-- RESTART_LOCK (R129). -/
def execRestartLock (dt : Nat) (q : Request) (s : State) : Host.Outcome State Fault Refusal :=
  .next (s.requestArrival dt .restartLock q s.straps)

/-- CLEAR_PORT_COUNTERS (R144). -/
def execClearPortCounters (dt : Nat) (q : Request) (s : State) : Host.Outcome State Fault Refusal :=
  .next (s.requestArrival dt .clearPortCounters q s.straps)

/-- RESET_SOFT (R172). -/
def execResetSoft (dt : Nat) (q : Request) (s : State) : Host.Outcome State Fault Refusal :=
  .next (s.requestArrival dt .resetSoft q s.straps)

/-- RESET_FULL (R173). -/
def execResetFull (dt : Nat) (q : Request) (straps : Address) (s : State) : Host.Outcome State Fault Refusal :=
  .next (s.requestArrival dt .resetFull q straps)

/-- ACQUIRE (R179). -/
def execAcquire (dt : Nat) (q : Request) (s : State) : Host.Outcome State Fault Refusal :=
  .next (s.requestArrival dt (.lease .acquire) q s.straps)

/-- RENEW (R180). -/
def execRenew (dt : Nat) (q : Request) (s : State) : Host.Outcome State Fault Refusal :=
  .next (s.requestArrival dt (.lease .renew) q s.straps)

/-- LEASE_RELEASE (R181). -/
def execLeaseRelease (dt : Nat) (q : Request) (s : State) : Host.Outcome State Fault Refusal :=
  .next (s.requestArrival dt (.lease .release) q s.straps)

/-- CLAIM (R182). -/
def execClaim (dt : Nat) (q : Request) (s : State) : Host.Outcome State Fault Refusal :=
  .next (s.requestArrival dt (.lease .claim) q s.straps)

end Sys2Proof.Machine
end

