-- ==== Sys2Proof/Machine/Dispatch.lean ====
section
/-! DEFINITION. The effect of each command on everything but the queue: one arm per row of spec/opcode_table.json. -/

namespace Sys2Proof.Machine

def exec (i : Instr) (s : State) : Host.Outcome State Fault Refusal :=
  match i with
  | .powerOn dt straps => Sys2Proof.Machine.execPowerOn dt straps s
  | .resetPinAssert dt => Sys2Proof.Machine.execResetPinAssert dt s
  | .resetPinRelease dt straps => Sys2Proof.Machine.execResetPinRelease dt straps s
  | .cellArrival dt side cell straps => Sys2Proof.Machine.execCellArrival dt side cell straps s
  | .cellCutShort dt side => Sys2Proof.Machine.execCellCutShort dt side s
  | .lossTimerExpiry side => Sys2Proof.Machine.execLossTimerExpiry side s
  | .dataArrival dt cell => Sys2Proof.Machine.execDataArrival dt cell s
  | .syncArrival dt number => Sys2Proof.Machine.execSyncArrival dt number s
  | .dInArrival dt cell => Sys2Proof.Machine.execDInArrival dt cell s
  | .read dt cls q => Sys2Proof.Machine.execRead dt cls q s
  | .write dt cls q => Sys2Proof.Machine.execWrite dt cls q s
  | .writeMap dt q => Sys2Proof.Machine.execWriteMap dt q s
  | .writeRecordConfig dt q => Sys2Proof.Machine.execWriteRecordConfig dt q s
  | .writeShadowSlot dt q => Sys2Proof.Machine.execWriteShadowSlot dt q s
  | .writeBankLength dt q => Sys2Proof.Machine.execWriteBankLength dt q s
  | .writeLine dt q => Sys2Proof.Machine.execWriteLine dt q s
  | .writeSettings dt q => Sys2Proof.Machine.execWriteSettings dt q s
  | .fill dt q => Sys2Proof.Machine.execFill dt q s
  | .start dt q => Sys2Proof.Machine.execStart dt q s
  | .pause dt q => Sys2Proof.Machine.execPause dt q s
  | .resume dt q => Sys2Proof.Machine.execResume dt q s
  | .stop dt q => Sys2Proof.Machine.execStop dt q s
  | .release dt q => Sys2Proof.Machine.execRelease dt q s
  | .clearCounters dt q => Sys2Proof.Machine.execClearCounters dt q s
  | .copy dt q => Sys2Proof.Machine.execCopy dt q s
  | .copyStep => Sys2Proof.Machine.execCopyStep s
  | .copyCompletion => Sys2Proof.Machine.execCopyCompletion s
  | .swap dt q => Sys2Proof.Machine.execSwap dt q s
  | .swapAt dt q => Sys2Proof.Machine.execSwapAt dt q s
  | .swapCancel dt q => Sys2Proof.Machine.execSwapCancel dt q s
  | .restartLock dt q => Sys2Proof.Machine.execRestartLock dt q s
  | .clearPortCounters dt q => Sys2Proof.Machine.execClearPortCounters dt q s
  | .resetSoft dt q => Sys2Proof.Machine.execResetSoft dt q s
  | .resetFull dt q straps => Sys2Proof.Machine.execResetFull dt q straps s
  | .acquire dt q => Sys2Proof.Machine.execAcquire dt q s
  | .renew dt q => Sys2Proof.Machine.execRenew dt q s
  | .leaseRelease dt q => Sys2Proof.Machine.execLeaseRelease dt q s
  | .claim dt q => Sys2Proof.Machine.execClaim dt q s
  | .leaseUnitStep => Sys2Proof.Machine.execLeaseUnitStep s
  | .leaseExpiry => Sys2Proof.Machine.execLeaseExpiry s
  | .cycleBoundary => Sys2Proof.Machine.execCycleBoundary s
  | .slotStart => Sys2Proof.Machine.execSlotStart s
  | .guardStart => Sys2Proof.Machine.execGuardStart s
  | .cellTimeStart => Sys2Proof.Machine.execCellTimeStart s
  | .syncWindowOpen => Sys2Proof.Machine.execSyncWindowOpen s
  | .syncWindowEnd => Sys2Proof.Machine.execSyncWindowEnd s

end Sys2Proof.Machine
end

