-- ==== Sys2Proof/Safety.lean ====
section
/-! DEFINITION. The terms that statements use, each written from its rule apart from the model's own operations (a verb in the third
person names what the spec says happens): when a happening of the gate's own clock is due, what a good arrival, a reply
and the onward copy of a broadcast request do, when a request passes the agent's checks, and the laws that the spec says
hold at every instant. -/

namespace Sys2Proof.Machine

/-! ### Due ticks -/

/-- The tick on which a happening of the gate's own clock is due; none for one that is not scheduled and for every outside
happening. A sender that keeps the commands in tick order sends each of these no later than its tick (log 2). -/
def State.dueTick (s : State) (i : Instr) : Option Nat :=
  match i with
  | .lossTimerExpiry side => (s.link side).lossTick
  | .copyStep => match s.banks.condition with
    | .copying takenAt done => if done + 1 < 64 then some (takenAt + 512 * (done + 1)) else none
    | .free | .swapPending _ => none
  | .copyCompletion => match s.banks.condition with
    | .copying takenAt done => if done + 1 < 64 then none else some (takenAt + 512 * (done + 1))
    | .free | .swapPending _ => none
  | .leaseUnitStep => match s.lease.state, s.lease.countdown with
    | .held, some n => if 1 < n then some (s.lease.base + 524288) else none
    | _, _ => none
  | .leaseExpiry => match s.lease.state, s.lease.countdown with
    | .held, some n => if 1 < n then none else some (s.lease.base + 524288)
    | _, _ => none
  | .cycleBoundary => match s.timer.position with
    | .guard => some s.timer.boundaryTick
    | .slot _ => none
  | .slotStart => s.nextSlot.map fun k => s.timer.start + 512 * k
  | .guardStart => s.guardTick
  | .cellTimeStart => s.nextCellTime.map fun k => s.timer.start + 512 * k
  | .syncWindowOpen => match s.lock.window with
    | some w => if w.isOpen then none else some w.opening
    | none => none
  | .syncWindowEnd => match s.lock.window with
    | some w => if w.isOpen then some w.ending else none
    | none => none
  | .powerOn .. | .resetPinAssert .. | .resetPinRelease .. | .cellArrival .. | .cellCutShort .. | .dataArrival ..
  | .syncArrival .. | .dInArrival .. | .read .. | .write .. | .writeMap .. | .writeRecordConfig .. | .writeShadowSlot ..
  | .writeBankLength .. | .writeLine .. | .writeSettings .. | .fill .. | .start .. | .pause .. | .resume .. | .stop ..
  | .release .. | .clearCounters .. | .copy .. | .swap .. | .swapAt .. | .swapCancel .. | .restartLock ..
  | .clearPortCounters .. | .resetSoft .. | .resetFull .. | .acquire .. | .renew .. | .leaseRelease .. | .claim .. => none

/-- The ticks that pass before an outside happening; none for a happening of the gate's own clock. -/
def ticksBefore (i : Instr) : Option Nat :=
  match i with
  | .powerOn dt _ | .resetPinAssert dt | .resetPinRelease dt _ | .cellArrival dt _ _ _ | .cellCutShort dt _ | .dataArrival dt _
  | .syncArrival dt _ | .dInArrival dt _ | .read dt _ _ | .write dt _ _ | .writeMap dt _ | .writeRecordConfig dt _
  | .writeShadowSlot dt _ | .writeBankLength dt _ | .writeLine dt _ | .writeSettings dt _ | .fill dt _ | .start dt _
  | .pause dt _ | .resume dt _ | .stop dt _ | .release dt _ | .clearCounters dt _ | .copy dt _ | .swap dt _ | .swapAt dt _
  | .swapCancel dt _ | .restartLock dt _ | .clearPortCounters dt _ | .resetSoft dt _ | .resetFull dt _ _ | .acquire dt _
  | .renew dt _ | .leaseRelease dt _ | .claim dt _ => some dt
  | .lossTimerExpiry _ | .copyStep | .copyCompletion | .leaseUnitStep | .leaseExpiry | .cycleBoundary | .slotStart | .guardStart
  | .cellTimeStart | .syncWindowOpen | .syncWindowEnd => none

/-! ### The request rows -/

/-- What a request row sends: the ticks before it, its operation code, its class, command or lease operation code, and its
fields; none for a row that is not a request (12.2, 12.3). -/
def requestRow (i : Instr) : Option (Nat × BitVec 4 × Octet × Request) :=
  match i with
  | .read dt cls q => some (dt, 0, cls.code, q)
  | .write dt cls q => some (dt, 1, cls.code, q)
  | .writeMap dt q => some (dt, 1, 0x4, q)
  | .writeRecordConfig dt q => some (dt, 1, 0x5, q)
  | .writeShadowSlot dt q => some (dt, 1, 0x9, q)
  | .writeBankLength dt q => some (dt, 1, 0xA, q)
  | .writeLine dt q => some (dt, 1, 0xB, q)
  | .writeSettings dt q => some (dt, 1, 0x2, q)
  | .fill dt q => some (dt, 2, 0x01, q)
  | .start dt q => some (dt, 2, 0x02, q)
  | .pause dt q => some (dt, 2, 0x03, q)
  | .resume dt q => some (dt, 2, 0x04, q)
  | .stop dt q => some (dt, 2, 0x05, q)
  | .release dt q => some (dt, 2, 0x06, q)
  | .clearCounters dt q => some (dt, 2, 0x07, q)
  | .copy dt q => some (dt, 2, 0x10, q)
  | .swap dt q => some (dt, 2, 0x11, q)
  | .swapAt dt q => some (dt, 2, 0x12, q)
  | .swapCancel dt q => some (dt, 2, 0x13, q)
  | .restartLock dt q => some (dt, 2, 0x20, q)
  | .clearPortCounters dt q => some (dt, 2, 0x21, q)
  | .resetSoft dt q => some (dt, 2, 0x30, q)
  | .resetFull dt q _ => some (dt, 2, 0x31, q)
  | .acquire dt q => some (dt, 3, 0, q)
  | .renew dt q => some (dt, 3, 1, q)
  | .leaseRelease dt q => some (dt, 3, 2, q)
  | .claim dt q => some (dt, 3, 3, q)
  | .powerOn .. | .resetPinAssert .. | .resetPinRelease .. | .cellArrival .. | .cellCutShort .. | .lossTimerExpiry ..
  | .dataArrival .. | .syncArrival .. | .dInArrival .. | .copyStep | .copyCompletion | .leaseUnitStep | .leaseExpiry
  | .cycleBoundary | .slotStart | .guardStart | .cellTimeStart | .syncWindowOpen | .syncWindowEnd => none

/-! ### What an arrival does before its route -/

/-- A valid cell completes on a side `dt` ticks after the happening before it: the link is UP, its loss timer starts from
this tick, and LINK_CHANGE with argument UP (1) is offered when the side was DOWN (R142). -/
def State.valid (s : State) (dt : Nat) (side : Side) : State :=
  match side with
  | .uIn =>
    let t : State := { s with now := s.now + dt, uIn := { status := .up, lastValid := some (s.now + dt) } }
    if s.uIn.status = .down then t.offerEvent .linkChange (some 0) (some 1) else t
  | .dIn =>
    let t : State := { s with now := s.now + dt, dIn := { status := .up, lastValid := some (s.now + dt) } }
    if s.dIn.status = .down then t.offerEvent .linkChange (some 1) (some 1) else t

/-- A good cell completes on a side: valid, and counted once as good (R137). A LINK_CHANGE offered here comes before the events
of the cell's route (log 24). -/
def State.heard (s : State) (dt : Nat) (side : Side) : State :=
  let t := s.valid dt side
  match side with
  | .uIn => { t with ports := { t.ports with uGood := saturate t.ports.uGood } }
  | .dIn => { t with ports := { t.ports with dGood := saturate t.ports.dGood } }

/-! ### What a request does around its execution -/

/-- A cell offered to the Pass Queue, the verdict judged on state `u` and carried out on state `t` (R51, R52). -/
def State.passed (u : State) (c : Cell) (t : State) : State :=
  if u.passQueue.length < 48 then
    if 0 < u.free then { t with passQueue := t.passQueue ++ [c], free := t.free - 1 }
    else ({ t with ports := { t.ports with uPassDrops := saturate t.ports.uPassDrops } } : State).offerEvent .poolExhausted none none
  else { t with ports := { t.ports with uPassDrops := saturate t.ports.uPassDrops } }

/-- The state after a request with these codes and fields whose agent part is `f`: its cell is heard, the agent acts, and a
broadcast cell is also offered to the Pass Queue, judged on the state the arrival found (R139, log 6). -/
def State.carried (s : State) (dt : Nat) (op : BitVec 4) (code : Octet) (q : Request) (f : State → State) : State :=
  if q.dest = 127#7 then (s.heard dt .uIn).passed (requestCell op code q) (f (s.heard dt .uIn)) else f (s.heard dt .uIn)

/-- The reply queued, and cached for its manager (R167). -/
def State.replied (s : State) (r : Reply) : State :=
  { s with replies := s.replies ++ [r], cache := s.cache.set r.manager.toNat (some r) r.manager.isLt }

/-- A reply without data queued and cached (R167, R188: entry count 0, data area zero). -/
def State.answered (s : State) (q : Request) (status : Status) (detail : Word16) : State :=
  s.replied { manager := q.manager, tag := q.tag, status := status, detail := detail, count := 0, data := 0 }

/-- The gate receives, and the request is addressed to it or broadcast. -/
abbrev State.reached (s : State) (q : Request) : Prop := s.pinHeld = false ∧ (q.dest = s.nodeAddress ∨ q.dest = 127#7)

/-- The request passes steps 1 and 2: reply room, and its tag is not the cached one of its manager (R161, R162). -/
abbrev State.taken (s : State) (q : Request) : Prop :=
  s.reached q ∧ s.replies.length < 16 ∧ ∀ r ∈ s.cached q.manager, r.tag ≠ q.tag

/-- The request passes the holder check and, unless it is broadcast, the epoch check (R165). -/
abbrev State.permitted (s : State) (q : Request) : Prop :=
  s.lease.state = .held ∧ s.lease.holder = some q.manager ∧ (q.dest = 127#7 ∨ q.epoch = s.lease.epoch)

/-- A COMMAND that broadcast allows is taken and permitted. -/
abbrev State.allowed (s : State) (q : Request) : Prop := s.taken q ∧ s.permitted q

/-- A WRITE or a reset command, which broadcast bars, is taken and permitted as unicast (R164). -/
abbrev State.allowedAlone (s : State) (q : Request) : Prop := s.taken q ∧ s.permitted q ∧ q.dest ≠ 127#7

/-- A record command of the right form is taken and permitted (R163, check 6). -/
abbrev State.allowedRecord (s : State) (q : Request) : Prop := s.taken q ∧ s.permitted q ∧ q.first.toNat ≤ 255 ∧ q.count = 1

end Sys2Proof.Machine

namespace Sys2Proof

/-- The record that a record command names. -/
abbrev Request.record (q : Request) : RecordIndex := q.first.setWidth 8

/-- First index and count lie within a class (R163, check 4). -/
abbrev Request.within (q : Request) (cls : ItemClass) : Prop :=
  1 ≤ q.count.toNat ∧ q.count.toNat ≤ cls.maxCount ∧ q.first.toNat + q.count.toNat ≤ cls.size

/-- The index of entry `j` of a request. -/
abbrev Request.index (q : Request) (j : Nat) : Nat := q.first.toNat + j

end Sys2Proof

namespace Sys2Proof.Machine

/-- The operation and code of a request name something that its form fits: it passes step 3 (R163). -/
def passesForm (op : BitVec 4) (code : Octet) (q : Request) : Prop :=
  (op = 0 ∧ ∃ cls : ItemClass, code = cls.code ∧ q.within cls) ∨
  (op = 1 ∧ ∃ cls : ItemClass, code = cls.code ∧ cls.readOnly = false ∧ q.within cls ∧
    (cls = .shadowSlot ∨ cls = .bankLength → q.first ≠ 0)) ∨
  (op = 2 ∧ ((1 ≤ code.toNat ∧ code.toNat ≤ 7 ∧ q.first.toNat ≤ 255 ∧ q.count = 1) ∨
    code ∈ [0x10, 0x11, 0x12, 0x13, 0x20, 0x21, 0x30, 0x31])) ∨
  (op = 3 ∧ code.toNat ≤ 3)

/-! ### The layouts of chapter 12, octet by octet -/

/-- Octet `i` of a payload (12). -/
def octetOf (p : Payload) (i : Nat) : Octet := p.extractLsb' (8 * (39 - i)) 8

/-- Octets `i` and `i + 1` of a payload as one number, the most significant first. -/
def wordOf (p : Payload) (i : Nat) : Word16 := octetOf p i ++ octetOf p (i + 1)

/-- A field of one octet. -/
def octetField (v : Nat) : List Octet := [BitVec.ofNat 8 v]

/-- A field of two octets, the most significant first. -/
def wordField (v : Nat) : List Octet := [BitVec.ofNat 8 (v / 256), BitVec.ofNat 8 v]

/-- The code of a name: its place in the list of names that 12.3 numbers from 0. -/
def codeIn {α : Type} [DecidableEq α] (names : List α) (a : α) : Nat := names.idxOf a

/-- The reply statuses in the order of their codes (12.3). -/
def statusNames : List Status :=
  [.ok, .noChange, .badOperation, .badItem, .notOnBroadcast, .notHolder, .staleEpoch, .busy, .bankLocked, .wrongState, .badValue,
   .inUse, .invalidBank, .notPending, .claimPending]

/-- The event kinds in the order of their codes (12.4). -/
def kindNames : List EventKind :=
  [.startedUp, .linkChange, .lockState, .numberSlip, .streamRunning, .streamFault, .swapDone, .copyDone, .leaseGranted,
   .leaseExpired, .claimRaised, .poolExhausted, .throughOverflow, .replyDropped]

/-- The record states in the order of their codes (12.3). -/
def stateNames : List RecordState := [.unused, .idle, .filling, .starting, .running, .paused, .faulted]

/-- The number of a MAP entry: value code in bits 15..14, record index below when BOUND (12.2). -/
def MapEntry.number : MapEntry → Nat
  | .pass => 0
  | .drop => 1 * 16384
  | .bound r => 2 * 16384 + r.toNat

/-- The number of a slot entry: slot kind code in the high octet, record index in the low one when STREAM (12.2). -/
def SlotEntry.number : SlotEntry → Nat
  | .quiet => 0
  | .openSlot => 1 * 256
  | .stream r => 2 * 256 + r.toNat

/-- The SETTINGS entry (12.2). -/
def Settings.layout (g : Settings) : List Octet :=
  wordField g.guard ++ octetField (codeIn [.loc, .line] g.source) ++ wordField g.latency ++ wordField g.window ++
  wordField g.lockWindow ++ octetField g.holdoverLimit ++ octetField (codeIn [false, true] g.mark) ++ wordField g.mask.toNat ++
  octetField g.leaseTimeout ++ octetField g.claimGrace

/-- The RECORD_CONFIG entry (12.2). -/
def RecordConfig.layout (c : RecordConfig) : List Octet :=
  octetField (codeIn [.downstream, .localOnly, .both] c.delivery) ++ octetField c.depthLimit ++
  octetField (codeIn [.dropNew, .dropOldest] c.overflow) ++ octetField (codeIn [.idleCell, .repeatLast, .yieldSlot] c.missPolicy) ++
  octetField c.faultThreshold.toNat ++ octetField c.retag.toNat

/-- The LINE entry; FFFFh stands for no source and FFh for no staged value (12.2). -/
def Line.layout (l : Line) : List Octet :=
  wordField (match l.source with | some r => r.toNat | none => 0xFFFF) ++ wordField l.bitIndex ++
  octetField (codeIn [.direct, .inverted] l.polarity) ++ octetField (codeIn [.low, .high] l.safeLevel) ++
  octetField (codeIn [.disabled, .safe, .driven] l.state) ++ octetField (codeIn [.low, .high] l.applied) ++
  octetField (match l.staged with | some v => codeIn [.low, .high] v | none => 0xFF)

/-- Entry `k` of a class as 12.2 lays it out, with the contents of R21, R59, R104, R144 and R168. -/
def State.entryLayout (s : State) (cls : ItemClass) (k : Nat) : List Octet :=
  match cls with
  | .ident =>
    wordField 0x0A31 ++ wordField 0x0614 ++ octetField 0x01 ++ octetField s.nodeAddress.toNat ++
    [4096, 256, 384, 1024, 8, 4, 48, 32, 16, 32].flatMap wordField
  | .status =>
    octetField (codeIn [.free, .seeking, .acquiring, .tracking, .holdover] s.lock.state) ++ wordField s.timer.number.toNat ++
    octetField (codeIn [.halted, .running] s.engine) ++ octetField (codeIn [.zero, .one] s.banks.activeNumber) ++
    octetField (match s.banks.condition with | .free => 0 | .copying _ _ => 1 | .swapPending _ => 2) ++ wordField s.free ++
    octetField (codeIn [.free, .held] s.lease.state) ++
    octetField (if s.lease.state = .held then (match s.lease.holder with | some m => m.toNat | none => 0xFF) else 0xFF) ++
    wordField s.lease.epoch.toNat
  | .settings => s.settings.layout
  | .port =>
    let p := s.ports
    octetField (codeIn [.down, .up] s.uIn.status) ++ octetField (codeIn [.down, .up] s.dIn.status) ++
    [p.uGood, p.uBad, p.uUnknown, p.uUnexpected, p.uSyncIgnored, p.uOutOfWindow, p.uMapDrops, p.uPassDrops, p.uReplyDrops,
     p.dGood, p.dBad, p.dUnknown, p.dDiscarded, p.dThroughDrops].flatMap fun n => wordField n.toNat
  | .map => wordField (s.mapEntry (BitVec.ofNat 12 k)).number
  | .recordConfig => (s.record (BitVec.ofNat 8 k)).config.layout
  | .recordStatus =>
    let x := s.record (BitVec.ofNat 8 k)
    octetField (codeIn stateNames x.state) ++ wordField (match x.bound with | some id => id.toNat | none => 0xFFFF) ++
    octetField x.queue.length ++ octetField x.misses.toNat ++ octetField (match x.lastValue with | some _ => 1 | none => 0)
  | .recordCounters =>
    let n := (s.record (BitVec.ofNat 8 k)).counters
    [n.released, n.repeated, n.missed, n.early, n.late, n.refused].flatMap fun v => wordField v.toNat
  | .activeSlot => wordField (s.banks.active.entry k).number
  | .shadowSlot => wordField (s.banks.shadow.entry k).number
  | .bankLength => wordField (if k = 0 then s.banks.active.length else s.banks.shadow.length)
  | .line => (s.line (BitVec.ofNat 3 k)).layout

/-! ### What the checks of a WRITE say of one entry -/

/-- MAP entry `j` of a write: its refusal, none when it passes (R17). -/
def State.mapJudgement (s : State) (q : Request) (j : Nat) : Option Status :=
  match MapEntry.ofWord (dataWord q.data (2 * j)) with
  | none => some .badValue
  | some (.bound r) =>
    if (s.record r).state = .unused then some .badValue
    else if (s.record r).bound ≠ none ∧ (s.record r).bound ≠ some (BitVec.ofNat 12 (q.index j)) then some .inUse
    else if ∃ i < j, MapEntry.ofWord (dataWord q.data (2 * i)) = some (.bound r) then some .inUse
    else none
  | some .pass | some .drop => none

/-- RECORD_CONFIG entry `j` of a write: its refusal, none when it passes (R20). -/
def State.configJudgement (s : State) (q : Request) (j : Nat) : Option Status :=
  let state := (s.record (BitVec.ofNat 8 (q.index j))).state
  if state ≠ .unused ∧ state ≠ .idle then some .wrongState
  else if RecordConfig.ofData q.data (6 * j) = none then some .badValue
  else none

/-- LINE entry `j` of a write: its refusal, none when it passes (R103). -/
def State.lineJudgement (s : State) (q : Request) (j : Nat) : Option Status :=
  match LineConfig.ofData q.data (9 * j) with
  | none => some .badValue
  | some c => match c.source with
    | some r => if (s.record r).state = .unused then some .badValue else none
    | none => none

/-- SHADOW_SLOT entry `j` of a write: its refusal, none when it passes (R60). -/
def slotJudgement (q : Request) (j : Nat) : Option Status :=
  if SlotEntry.ofWord (dataWord q.data (2 * j)) = none then some .badValue else none

/-- Entry `j` is the first one refused, with this status. -/
def firstRefused (judge : Nat → Option Status) (count j : Nat) (status : Status) : Prop :=
  j < count ∧ judge j = some status ∧ ∀ i < j, judge i = none

/-- Slot `k` is the first of slots 1..length-1 of the bank whose entry satisfies `p` (R27, R65). -/
def Bank.isFirst (b : Bank) (p : SlotEntry → Prop) (k : Nat) : Prop :=
  1 ≤ k ∧ k < b.length ∧ p (b.entry k) ∧ ∀ j < k, 1 ≤ j → ¬p (b.entry j)

/-- No slot of 1..length-1 of the bank has an entry that satisfies `p`. -/
def Bank.hasNone (b : Bank) (p : SlotEntry → Prop) : Prop := ∀ k < b.length, 1 ≤ k → ¬p (b.entry k)

/-! ### Halts, lock changes and grants -/

/-- The line goes SAFE and loses a staged value, if it has a source (R109, R111). -/
def Line.madeSafe (l : Line) : Line := if l.source.isSome then { l with staged := none, state := .safe } else l

/-- Every line whose source is record `r` goes SAFE and loses a staged value (R108). -/
def State.linesSafe (s : State) (r : RecordIndex) : State :=
  s.eachLine fun l => if l.source = some r then { l with staged := none, state := .safe } else l

/-- A running engine halts and its lines go SAFE; nothing changes while it is HALTED (R79). -/
def State.halts (s : State) : State :=
  if s.engine = .running then { s with engine := .halted, lines := mapAll Line.madeSafe s.lines } else s

/-- The lock becomes SEEKING, its counts 0 and its window discarded, a running engine halts, and LOCK_STATE SEEKING (1) is
offered with this reason (R128). -/
def State.unlocks (s : State) (why : Word16) : State :=
  ({ s with lock := { state := .seeking, acquisition := 0, excursion := 0, holdover := 0, window := none } } : State).halts.offerEvent
    .lockState (some 1) (some why)

/-- The lock restarts: SEEKING in LINE mode, FREE in LOCAL mode with the engine untouched, reason RESTART (6) (R129). -/
def State.relocks (s : State) : State :=
  match s.settings.source with
  | .line => s.unlocks 6
  | .loc =>
    ({ s with lock := { state := .free, acquisition := 0, excursion := 0, holdover := 0, window := none } } : State).offerEvent
      .lockState (some 0) (some 6)

/-- The lease granted to a manager, timed from now, with LEASE_GRANTED (R178). -/
def State.granted (s : State) (m : Manager) : State :=
  ({ s with lease := { state := .held, holder := some m, epoch := s.lease.epoch + 1, countdown := some s.settings.leaseTimeout,
                       base := s.now, claimant := none } } : State).offerEvent
    .leaseGranted (some (m.setWidth 8)) (some (s.lease.epoch + 1))

/-- The end of a grant: granted to the claimant, else FREE with the epoch kept (R181, R183). -/
def State.grantEnds (s : State) : State :=
  match s.lease.claimant with
  | some m => s.granted m
  | none => { s with lease := { s.lease with state := .free, holder := none, countdown := none } }

/-! ### What a SYNC cell does -/

/-- A seed from number `n` at the present tick: T, moved one cycle length on when it falls before the end of the slot in
progress, the placement, ACQUIRING with the window of the cycle placed at T, and LOCK_STATE ACQUIRING (2), SEEDED (0)
(R120). -/
def State.seeds (s : State) (n : Word16) : State :=
  let cycle := s.timer.length * 512 + s.timer.guardBase
  let L := s.settings.latency
  let W := s.settings.window
  let T := s.now + cycle - L
  let moved : Bool := match s.timer.position with
    | .slot k => decide (T < s.timer.start + (k + 1) * 512)
    | .guard => false
  let B := if moved then T + cycle else T
  ({ s with
      timer := { s.timer with placement := some B, nextNumber := some (if moved then n + 2 else n + 1), trim := 0, nextTrim := none }
      lock := { s.lock with
        state := .acquiring
        acquisition := 0
        window := some { boundary := B, opening := B + L - W, ending := B + L + W, latency := L, span := W, isOpen := false,
                         spent := false } } } : State).halts.offerEvent .lockState (some 2) (some 0)

/-- The window is open and not spent (R117). -/
abbrev Window.takes (w : Window) : Prop := w.isOpen = true ∧ w.spent = false

/-- The phase error of an arrival at the present tick (R118). -/
def State.phase (s : State) (w : Window) : Int := (s.now : Int) - ((w.boundary : Int) + (w.latency : Int))

/-- The arrival is in lock (R118). -/
abbrev State.isInLock (s : State) (w : Window) : Prop := (s.phase w).natAbs ≤ s.settings.lockWindow

/-- The number that the window's cycle has, or will have (R119). -/
def State.expects (s : State) (w : Window) : Word16 :=
  if w.boundary ≤ s.timer.start then s.timer.number
  else match s.timer.nextNumber with
    | some n => n
    | none => s.timer.number + 1

/-- A trim handed for the window's cycle: the current trim while that cycle is the current one and its guard has not begun,
else the next trim (R5, R118). -/
def State.trims (s : State) (w : Window) (v : Int) : State :=
  if w.boundary ≤ s.timer.start ∧ s.timer.position ≠ .guard then { s with timer := { s.timer with trim := v } }
  else { s with timer := { s.timer with nextTrim := some v } }

/-- The phase error limited to -64..64 (R118). -/
def limited (e : Int) : Int := if e < -64 then -64 else if 64 < e then 64 else e

/-- A number slip, when the number is not the expected one: the window's cycle is renumbered and NUMBER_SLIP offered
(R119). -/
def State.slips (s : State) (w : Window) (n : Word16) : State :=
  if n = s.expects w then s
  else if w.boundary ≤ s.timer.start then
    ({ s with timer := { s.timer with number := n } } : State).offerEvent .numberSlip none (some n)
  else ({ s with timer := { s.timer with nextNumber := some n } } : State).offerEvent .numberSlip none (some n)

/-- The current window becomes spent (R116). -/
def State.spends (s : State) (w : Window) : State := { s with lock := { s.lock with window := some { w with spent := true } } }

/-- The lock with another state and other counts. -/
def State.locks (s : State) (state : LockState) (acquisition excursion holdover : Nat) : State :=
  { s with lock := { s.lock with state := state, acquisition := acquisition, excursion := excursion, holdover := holdover } }

/-- The window that follows the window of the current cycle: that of the cycle which the timer's next boundary begins, not
open before the end of this one, and open at once when it opens on that tick (R116). -/
def State.followed (s : State) (w : Window) : State :=
  let B := s.timer.boundaryTick
  let opening := max (B + s.settings.latency - s.settings.window) w.ending
  { s with lock := { s.lock with
      window := some { boundary := B, opening := opening, ending := B + s.settings.latency + s.settings.window,
                       latency := s.settings.latency, span := s.settings.window, isOpen := decide (opening = w.ending),
                       spent := false } } }

/-! ### What a slot does -/

/-- The buffers under the cell in flight on D-out: 0 or 1 (R48). -/
def State.inFlight (s : State) : Nat :=
  match s.dOut with
  | some f => if f.buffered then 1 else 0
  | none => 0

/-- A staged value is applied, and the line is DRIVEN (R106). -/
def Line.applies (l : Line) : Line :=
  match l.staged with
  | some v => { l with applied := v, staged := none, state := .driven }
  | none => l

/-- The level that the pin of a line shows while the reset pin is not held (R102). -/
def Line.shows (l : Line) : Level :=
  match l.state with
  | .disabled => .low
  | .safe => l.safeLevel
  | .driven => l.applied

/-- The slot in progress ends: its buffer is freed and staged values are applied (R48, R106). -/
def State.slotEnds (s : State) : State :=
  { s with free := s.free + s.inFlight, dOut := none, lines := mapAll Line.applies s.lines }

/-- The timer at tick `t` and at another position. -/
def State.movesTo (s : State) (t : Nat) (p : Position) : State :=
  { s with now := max s.now t, timer := { s.timer with position := p } }

/-- Slot `k` of the current cycle runs: it is one of the N, and it ends at or before a placed boundary (R2, R9). -/
abbrev Timer.runs (t : Timer) (k : Nat) : Prop := k < t.length ∧ ∀ T ∈ t.placement, t.start + (k + 1) * 512 ≤ T

/-- A cell without a buffer goes into flight on D-out (R48). -/
def State.sends (s : State) (c : Cell) (source : FlightSource) : State :=
  { s with dOut := some { cell := c, source := source, buffered := false } }

/-- The slot serves the Pass Queue: its head goes into flight with its buffer, else an IDLE cell (R53). -/
def State.serves (s : State) : State :=
  match s.passQueue with
  | c :: rest => { s with passQueue := rest, dOut := some { cell := c, source := .passQueue, buffered := true } }
  | [] => s.sends idleCell .engine

/-- The cell of a slot that follows the miss policy of record `r`; a REPEAT send is counted when `counts` (R85, R91, R92). -/
def State.follows (s : State) (r : RecordIndex) (counts : Bool) : State :=
  let x := s.record r
  match x.config.missPolicy, x.lastValue with
  | .yieldSlot, _ => s.serves
  | .repeatLast, some v =>
    let y := if counts then { x with counters := { x.counters with repeated := saturate x.counters.repeated } } else x
    (s.setRecord r y).sends (dataCell v.stream v.tag v.payload) (.record r)
  | .repeatLast, none | .idleCell, _ => s.sends idleCell .engine

/-- Every line whose source is record `r` is staged from the payload: HIGH when its bit, after the polarity, is 1 (R105). -/
def State.stages (s : State) (r : RecordIndex) (p : Payload) : State :=
  s.eachLine fun l =>
    if l.source = some r then
      { l with staged := some (if p.getMsbD l.bitIndex = (l.polarity == .direct) then .high else .low) }
    else l

/-- The distance of a tag from the current cycle, modulo 64 (R86). -/
def State.distance (s : State) (c : Cell) : Nat := (tagOf c - s.timer.number.setWidth 6).toNat

/-- Record `x` after purging its stale heads, and how many there were (R87). -/
def State.purged (s : State) (x : Record) : Record × Nat :=
  let stale := (x.queue.takeWhile fun c => decide (33 ≤ s.distance c)).length
  ({ x with
     queue := x.queue.drop stale
     counters := { x.counters with late := saturateBy x.counters.late stale } }, stale)

/-- Record `x` after releasing head `c` (R89, R93): misses 0, counted, and the last value with the tag as sent. -/
def Record.releases (x : Record) (c : Cell) : Record :=
  { x with
    queue := x.queue.tail
    misses := 0
    counters := { x.counters with released := saturate x.counters.released }
    lastValue := some { payload := c.payload, stream := streamOf c, tag := tagOf c + x.config.retag.setWidth 6 } }

/-- Record `x` after a miss: counted, an ahead head counted early (R88, R90). -/
def Record.missesSlot (x : Record) : Record :=
  { x with
    misses := saturate x.misses
    counters := { x.counters with
      missed := saturate x.counters.missed
      early := if x.queue = [] then x.counters.early else saturate x.counters.early } }

/-- Record `r` becomes FAULTED: queue flushed, last value cleared, lines SAFE, STREAM_FAULT offered (R31). -/
def State.faults (s : State) (r : RecordIndex) : State :=
  let x := s.record r
  (((({ s with free := s.free + x.queue.length } : State).setRecord r
    { x with state := .faulted, queue := [], lastValue := none }).linesSafe r).offerEvent .streamFault (some r) none)

/-! ### What a boundary does -/

/-- The boundary that begins cycle `n` takes the pending swap (R67). -/
def Banks.swapsAt (b : Banks) (n : Word16) : Bool :=
  match b.condition with
  | .swapPending .nextBoundary => true
  | .swapPending (.cycle c) => decide ((n - c).toNat < 32768)
  | .free | .copying _ _ => false

/-- The timer, the banks and the end of the last slot at a boundary, before the engine decides; SWAP_DONE is offered when a
swap is taken (R3, R4, R5, R7, R68). -/
def State.turns (s : State) : State :=
  let n := match s.timer.nextNumber with | some n => n | none => s.timer.number + 1
  let B := match s.timer.placement with
    | some T => T
    | none => s.timer.start + ((s.timer.length * 512 + s.timer.guardBase : Nat) + s.timer.trim).toNat
  let swapped := s.banks.swapsAt n
  let banks : Banks :=
    if swapped then
      { active := s.banks.shadow, shadow := s.banks.active, activeNumber := s.banks.activeNumber.other, condition := .free }
    else s.banks
  let t : State :=
    { s with
      now := max s.now B
      free := s.free + s.inFlight
      dOut := none
      uBegun := 0
      banks := banks
      timer := { number := n, length := if 8 ≤ banks.active.length ∧ banks.active.length ≤ 1024 then banks.active.length else 256,
                 position := .slot 0, start := B, guardBase := s.settings.guard,
                 trim := (match s.timer.nextTrim with | some v => v | none => 0), nextTrim := none, nextNumber := none,
                 placement := none } }
  if swapped then t.offerEvent .swapDone none (some (banks.activeNumber.code.setWidth 16)) else t

/-- The conditions of a RUNNING decision (R78). -/
abbrev State.mayStart (s : State) : Prop :=
  (8 ≤ s.banks.active.length ∧ s.banks.active.length ≤ 1024) ∧
    (s.lock.state = .free ∨ s.lock.state = .tracking ∨ s.lock.state = .holdover)

/-! ### The laws of the spec -/

/-- The records' queue lengths, added up. -/
def State.queued (s : State) : Nat := (s.records.toList.map fun x => x.queue.length).sum

/-- R40: every buffer is accounted for, no queue exceeds its limit, and the queues of UNUSED, IDLE and FAULTED records are
empty. -/
def PoolLaw (s : State) : Prop :=
  s.free + s.queued + s.passQueue.length + s.inFlight = 384 ∧ s.passQueue.length ≤ 48 ∧
  ∀ r : RecordIndex, 1 ≤ (s.record r).config.depthLimit ∧ (s.record r).config.depthLimit ≤ 32 ∧
    (s.record r).queue.length ≤ (s.record r).config.depthLimit ∧
    ((s.record r).state = .unused ∨ (s.record r).state = .idle ∨ (s.record r).state = .faulted → (s.record r).queue = [])

/-- R147, R152, R153, R154, R159: the queues of U-out keep to their sizes, no two event entries have the same kind and
object, repeat counts start at 1, the lost marker stands only over entries, and a cache entry is its manager's. -/
def QueueLaw (s : State) : Prop :=
  s.through.length ≤ 32 ∧ s.replies.length ≤ 16 ∧ s.events.length ≤ 32 ∧
  (s.events.map fun e => (e.kind, e.object)).Nodup ∧ (∀ e ∈ s.events, e.repeats ≠ 0) ∧ (s.lost = true → s.events ≠ []) ∧
  ∀ m r, s.cached m = some r → r.manager = m

/-- R160: every field of the Settings record lies in its range, and STARTED_UP is not suppressed (R156). -/
def SettingsLaw (s : State) : Prop :=
  64 ≤ s.settings.guard ∧ s.settings.guard ≤ 1024 ∧ s.settings.latency ≤ 4095 ∧ 16 ≤ s.settings.window ∧
  s.settings.window ≤ 4095 ∧ 4 ≤ s.settings.lockWindow ∧ s.settings.lockWindow ≤ s.settings.window ∧
  1 ≤ s.settings.holdoverLimit ∧ s.settings.holdoverLimit ≤ 255 ∧ s.settings.mask.getLsbD 0 = false ∧
  1 ≤ s.settings.leaseTimeout ∧ s.settings.leaseTimeout ≤ 255 ∧ 1 ≤ s.settings.claimGrace ∧ s.settings.claimGrace ≤ 255

/-- R175: a holder and a running countdown exactly while HELD, a claimant only while HELD and never the holder; the running
countdown lies in 1..255. -/
def LeaseLaw (s : State) : Prop :=
  (s.lease.holder.isSome ↔ s.lease.state = .held) ∧ (s.lease.countdown.isSome ↔ s.lease.state = .held) ∧
  (s.lease.claimant.isSome → s.lease.state = .held) ∧ (∀ m, s.lease.claimant = some m → s.lease.holder ≠ some m) ∧
  ∀ n, s.lease.countdown = some n → 1 ≤ n ∧ n ≤ 255

/-- R101, R103, R106: a line has a source exactly when it is not DISABLED, a DISABLED line holds no staged value, a source is
not UNUSED, and a line is DRIVEN or staged only while its source is RUNNING or PAUSED and the engine runs. -/
def LineLaw (s : State) : Prop :=
  ∀ i : BitVec 3, (s.line i).bitIndex ≤ 319 ∧ ((s.line i).source = none ↔ (s.line i).state = .disabled) ∧
    ((s.line i).state = .disabled → (s.line i).staged = none) ∧
    ∀ r, (s.line i).source = some r → (s.record r).state ≠ .unused ∧
      ((s.line i).state = .driven ∨ (s.line i).staged.isSome →
        s.engine = .running ∧ ((s.record r).state = .running ∨ (s.record r).state = .paused))

/-- R15, R18, R27: an entry is BOUND(r) exactly when it is the bound identifier of record r, and an UNUSED record is not
bound. -/
def BindingLaw (s : State) : Prop :=
  (∀ (id : StreamId) (r : RecordIndex), s.mapEntry id = .bound r ↔ (s.record r).bound = some id) ∧
  ∀ r : RecordIndex, (s.record r).state = .unused → (s.record r).bound = none

/-- A bank is invalid, or its length lies in 8..1024; its entry 0 is QUIET (R56). -/
def Bank.sound (b : Bank) : Prop := (b.length = 0 ∨ 8 ≤ b.length ∧ b.length ≤ 1024) ∧ b.entry 0 = .quiet

/-- Every STREAM entry in slots 1..length-1 names a record that is not UNUSED (R70). -/
def State.namesUsed (s : State) (b : Bank) : Prop :=
  ∀ (k : Nat) (r : RecordIndex), 1 ≤ k → k < b.length → b.entry k = .stream r → (s.record r).state ≠ .unused

/-- L + W stays short of a bank's slot span while the cycle source is LINE (R65, R72, R115). -/
def State.windowFits (s : State) (b : Bank) : Prop :=
  s.settings.source = .line → b.length ≠ 0 → s.settings.latency + s.settings.window < b.length * 512

/-- R56, R62, R70, R72, R115: both banks are sound; the active plan, and a pending one, name no UNUSED record and fit the
window; a pending plan is valid; a copy in flight has steps left, keeps the shadow invalid, and what it has written still
equals the active bank's entries. -/
def PlanLaw (s : State) : Prop :=
  s.banks.active.sound ∧ s.banks.shadow.sound ∧ s.namesUsed s.banks.active ∧ s.windowFits s.banks.active ∧
  (∀ target, s.banks.condition = .swapPending target →
    s.banks.shadow.length ≠ 0 ∧ s.namesUsed s.banks.shadow ∧ s.windowFits s.banks.shadow) ∧
  ∀ takenAt done, s.banks.condition = .copying takenAt done →
    done < 64 ∧ s.banks.shadow.length = 0 ∧ ∀ k < 16 * done, s.banks.shadow.entry k = s.banks.active.entry k

/-- R113: FREE exactly in LOCAL mode, a window exactly in ACQUIRING, TRACKING and HOLDOVER, and the counts that each state
allows. -/
def LockLaw (s : State) : Prop :=
  (s.lock.state = .free ↔ s.settings.source = .loc) ∧
  (s.lock.window.isSome ↔ s.lock.state = .acquiring ∨ s.lock.state = .tracking ∨ s.lock.state = .holdover) ∧
  (s.lock.state = .free ∨ s.lock.state = .seeking → s.lock.acquisition = 0 ∧ s.lock.excursion = 0 ∧ s.lock.holdover = 0) ∧
  (s.lock.state = .acquiring → s.lock.acquisition < 3 ∧ s.lock.excursion = 0 ∧ s.lock.holdover = 0) ∧
  (s.lock.state = .tracking → s.lock.acquisition = 3 ∧ s.lock.excursion < 3 ∧ s.lock.holdover = 0) ∧
  (s.lock.state = .holdover → s.lock.acquisition = 3 ∧ s.lock.excursion < 3 ∧ 1 ≤ s.lock.holdover ∧ s.lock.holdover ≤ 255)

/-- R78: the engine runs only on a valid active bank and with the lock FREE, TRACKING or HOLDOVER. -/
def EngineLaw (s : State) : Prop :=
  s.engine = .running →
    8 ≤ s.banks.active.length ∧ s.banks.active.length ≤ 1024 ∧
    (s.lock.state = .free ∨ s.lock.state = .tracking ∨ s.lock.state = .holdover)

/-- R1, R2, R3, R4, R5, R77: the cycle length, guard base and trims lie in their ranges, the slot in progress is one of the N, no
cell time of U-out has begun before its slot, the boundary of the current cycle is not ahead, and in the guard no cell is in
flight on either output. -/
def TimerLaw (s : State) : Prop :=
  8 ≤ s.timer.length ∧ s.timer.length ≤ 1024 ∧ 64 ≤ s.timer.guardBase ∧ s.timer.guardBase ≤ 1024 ∧
  (-64 ≤ s.timer.trim ∧ s.timer.trim ≤ 64) ∧ (∀ v, s.timer.nextTrim = some v → -64 ≤ v ∧ v ≤ 64) ∧ s.timer.start ≤ s.now ∧
  (∀ k, s.timer.position = .slot k → k < s.timer.length ∧ s.uBegun ≤ k + 1) ∧
  (s.timer.position = .guard → s.dOut = none ∧ s.uOut = none)

end Sys2Proof.Machine
end

