-- ==== Sys2Proof/Certificates/Slice0/Obligations.lean ====
section
/-! DEFINITION. The statements for the provers. A next state is given whole, as the state before with the changed fields
written out, so what a statement does not name is unchanged. `u` is the state that a request finds: its own cell counted and
its link UP. A broadcast request's onward copy is part of `State.carried`; that its verdict is judged on the state the arrival found
and carried out after the agent has acted is the model's reading (log 6), on which every clause about a broadcast request rests.
That the LINK_CHANGE of an arrival comes before the other events of the same arrival is the model's choice (log 24). -/

open Sys2Proof Sys2Proof.Machine

/-! ### The queue of commands, reset and the clock -/

/-- 00_scope section 4.4: happenings are taken whole, one after another. That an empty queue idles is the model's choice
(log 4). -/
def Obligations.StepTakesTheFrontCommand : Prop :=
  (∀ (s : State) (c : Instr) (rest : List Instr), s.pending = c :: rest → step s = exec c { s with pending := rest }) ∧
  ∀ s : State, s.pending = [] → step s = .next s

/-- Every command completes in every state, and leaves the waiting commands as they are. -/
def Obligations.EveryCommandCompletes : Prop :=
  ∀ (c : Instr) (s : State), ∃ t, exec c s = .next t ∧ t.pending = s.pending

/-- The reset values of R15, R19, R39, R56, R57, R58, R77, R101, R113, R134, R143, R160, R175 and the queues of R147 to R159,
with the one entry of R157. -/
def Obligations.ResetLeavesTheSpecsValues : Prop :=
  State.reset.timer.number = 0 ∧ State.reset.timer.length = 256 ∧ State.reset.timer.position = .slot 0 ∧
  State.reset.timer.guardBase = 128 ∧ State.reset.timer.trim = 0 ∧ State.reset.timer.nextTrim = none ∧
  State.reset.timer.nextNumber = none ∧ State.reset.timer.placement = none ∧ State.reset.elapsed = 0 ∧
  (∀ id : StreamId, State.reset.mapEntry id = .pass) ∧
  (∀ r : RecordIndex, State.reset.record r =
    { state := .unused, bound := none,
      config := { delivery := .downstream, depthLimit := 4, overflow := .dropNew, missPolicy := .idleCell, faultThreshold := 0,
                  retag := 0 },
      misses := 0, lastValue := none, queue := [],
      counters := { released := 0, repeated := 0, missed := 0, early := 0, late := 0, refused := 0 } }) ∧
  State.reset.free = 384 ∧ State.reset.passQueue = [] ∧
  State.reset.banks.active.length = 0 ∧ State.reset.banks.shadow.length = 0 ∧
  (∀ k, k < 1024 → State.reset.banks.active.entry k = .quiet ∧ State.reset.banks.shadow.entry k = .quiet) ∧
  State.reset.banks.activeNumber = .zero ∧ State.reset.banks.condition = .free ∧
  State.reset.engine = .halted ∧ State.reset.dOut = none ∧
  (∀ i : BitVec 3, State.reset.line i =
    { source := none, bitIndex := 0, polarity := .direct, safeLevel := .low, state := .disabled, applied := .low, staged := none }) ∧
  State.reset.lock = { state := .seeking, acquisition := 0, excursion := 0, holdover := 0, window := none } ∧
  State.reset.uIn = { status := .down, lastValid := none } ∧ State.reset.dIn = { status := .down, lastValid := none } ∧
  State.reset.ports.words = List.replicate 14 0 ∧
  State.reset.through = [] ∧ State.reset.replies = [] ∧ State.reset.lost = false ∧ State.reset.lastWinner = .own ∧
  State.reset.events = [{ kind := .startedUp, object := none, argument := some 0, firstCycle := 0, repeats := 1 }] ∧
  (∀ m : Manager, State.reset.cached m = none) ∧
  State.reset.settings = { guard := 128, source := .line, latency := 256, window := 512, lockWindow := 64, holdoverLimit := 8,
                           mark := false, mask := 0, leaseTimeout := 200, claimGrace := 20 } ∧
  State.reset.lease.state = .free ∧ State.reset.lease.holder = none ∧ State.reset.lease.epoch = 0 ∧
  State.reset.lease.countdown = none ∧ State.reset.lease.claimant = none

/-- R11, R174 and the reset rules of every block: power-on and the release of the reset pin put every block in its reset
state at the present tick, sample the straps (R135) and queue STARTED_UP with POWER_ON, in every state before. From power-on
until the release both outputs send fill and every line pin is LOW (R102, R146); the release begins cycle 0. That POWER_ON
leaves the reset pin held, and samples the straps as well, is the model's reading (log 9). -/
def Obligations.PowerOnAndPinReleaseRestart : Prop :=
  ∀ (s : State) (dt : Nat) (straps : Address),
    let t : State :=
      { State.reset with
        now := s.now + dt, straps := straps, nodeAddress := straps, timer := { State.reset.timer with start := s.now + dt },
        pending := s.pending }
    let held : State := { t with pinHeld := true }
    exec (.powerOn dt straps) s = .next held ∧ exec (.resetPinRelease dt straps) s = .next t ∧
    held.dOutLine = .fill ∧ held.uOutLine = .fill ∧ ∀ i : Fin 8, held.pinLevel i = .low

/-- R97, R79, R136, R146, R102, R11: the reset pin cuts off the cells in flight, frees the buffer and halts a running engine,
and while it is held both outputs send fill and every line pin is LOW; while it is not held each line pin shows LOW, the safe
level or the applied value, as its line's state says. That the rest of the state waits unchanged for the release is the model's
choice (log 8). -/
def Obligations.ResetPinCutsOffTheOutputs : Prop :=
  ∀ (s : State) (dt : Nat),
    (s.pinHeld = false → ∀ i : Fin 8, s.pinLevel i = (s.lines[i.val]'(i.isLt)).shows) ∧
    ∃ t, exec (.resetPinAssert dt) s = .next t ∧
      t = { ({ s with now := s.now + dt, dOut := none, free := s.free + s.inFlight } : State).halts with
            uOut := none, pinHeld := true } ∧
      t.dOutLine = .fill ∧ t.uOutLine = .fill ∧ ∀ i : Fin 8, t.pinLevel i = .low

/-- R11, R136: while the reset pin is held the timer does not run and nothing is received. The model's form of it (log 8):
every command but POWER_ON and the two of the pin lets only its ticks pass. -/
def Obligations.HeldPinStopsTheGate : Prop :=
  ∀ (s : State) (i : Instr), s.pinHeld = true →
    match i with
    | .powerOn .. | .resetPinAssert .. | .resetPinRelease .. => True
    | i => exec i s = .next (match ticksBefore i with | some dt => { s with now := s.now + dt } | none => s)

/-- R2, R63, R116, R141, R149, R176: each happening of the gate's own clock is taken on the tick that the state schedules for
it (or later, when its sender is late: log 2), and one that is not scheduled changes nothing (log 3). -/
def Obligations.OwnClockFallsOnItsTick : Prop :=
  ∀ (s : State) (i : Instr), s.pinHeld = false → ticksBefore i = none →
    (∀ T, s.dueTick i = some T → ∃ t, exec i s = .next t ∧ t.now = max s.now T) ∧
    (s.dueTick i = none → exec i s = .next s)

/-! ### Arrivals -/

/-- R136, R137, R138, R140: a cut-short cell and a cell that fails its check are counted bad and nothing else; a cell of kind 6
or 7 is valid and counted unknown; an IDLE cell is only heard; REP and EVT on U-in, and REQ and SYNC on D-in, are heard,
counted and discarded. -/
def Obligations.UnroutedCellsAreOnlyCounted : Prop :=
  ∀ (s : State) (dt : Nat) (side : Side) (c : Cell) (straps : Address), s.pinHeld = false →
    let bad : State := match side with
      | .uIn => { s with now := s.now + dt, ports := { s.ports with uBad := saturate s.ports.uBad } }
      | .dIn => { s with now := s.now + dt, ports := { s.ports with dBad := saturate s.ports.dBad } }
    let v := s.valid dt side
    let unknown : State := match side with
      | .uIn => { v with ports := { v.ports with uUnknown := saturate v.ports.uUnknown } }
      | .dIn => { v with ports := { v.ports with dUnknown := saturate v.ports.dUnknown } }
    let u := s.heard dt .uIn
    let d := s.heard dt .dIn
    exec (.cellCutShort dt side) s = .next bad ∧
    (c.check ≠ checkOf c.header c.payload → exec (.cellArrival dt side c straps) s = .next bad) ∧
    (c.check = checkOf c.header c.payload →
      (kindOf c = 6 ∨ kindOf c = 7 → exec (.cellArrival dt side c straps) s = .next unknown) ∧
      (kindOf c = 0 → exec (.cellArrival dt side c straps) s = .next (s.heard dt side)) ∧
      (kindOf c = 4 ∨ kindOf c = 5 → exec (.cellArrival dt .uIn c straps) s =
        .next { u with ports := { u.ports with uUnexpected := saturate u.ports.uUnexpected } }) ∧
      (kindOf c = 1 ∨ kindOf c = 3 → exec (.cellArrival dt .dIn c straps) s =
        .next { d with ports := { d.ports with dDiscarded := saturate d.ports.dDiscarded } }))

/-- R148 for a D-in arrival of kind DATA (2), REP (4) or EVT (5): appended while fewer than 32 cells are held, else discarded,
counted, and THROUGH_OVERFLOW offered. A REQ or SYNC cell is counted discarded (R140). That the arrival's LINK_CHANGE comes
before THROUGH_OVERFLOW is the model's choice (log 24). -/
def Obligations.DInCellsGoToTheThroughFifo : Prop :=
  ∀ (s : State) (dt : Nat) (c : Cell), s.pinHeld = false →
    let d := s.heard dt .dIn
    (kindOf c = 2 ∨ kindOf c = 4 ∨ kindOf c = 5 →
      (s.through.length < 32 → exec (.dInArrival dt c) s = .next { d with through := s.through ++ [c] }) ∧
      (32 ≤ s.through.length → exec (.dInArrival dt c) s =
        .next (({ d with ports := { d.ports with dThroughDrops := saturate d.ports.dThroughDrops } } : State).offerEvent
          .throughOverflow none none))) ∧
    (kindOf c = 1 ∨ kindOf c = 3 → exec (.dInArrival dt c) s =
      .next { d with ports := { d.ports with dDiscarded := saturate d.ports.dDiscarded } })

/-- R137, R138, R139, R140, R188: the rows of the table that are one kind of arrival do what CELL_ARRIVAL does with that cell
(log 5): DATA and SYNC cells on U-in, every routed cell on D-in, and the REQ cell of each request row. -/
def Obligations.ArrivalRowsAreCellArrivals : Prop :=
  ∀ (s : State) (dt : Nat) (straps : Address),
    (∀ c : Cell, c.check = checkOf c.header c.payload →
      (kindOf c = 2 → exec (.cellArrival dt .uIn c straps) s = exec (.dataArrival dt c) s) ∧
      (kindOf c = 1 → exec (.cellArrival dt .uIn c straps) s = exec (.syncArrival dt (numberOf c)) s) ∧
      (kindOf c ∈ [1, 2, 3, 4, 5] → exec (.cellArrival dt .dIn c straps) s = exec (.dInArrival dt c) s)) ∧
    ∀ (i : Instr) (op : BitVec 4) (code : Octet) (q : Request), requestRow i = some (dt, op, code, q) →
      (∀ sampled, i = .resetFull dt q sampled → straps = sampled) →
      exec (.cellArrival dt .uIn (requestCell op code q) straps) s = exec i s

/-- 12.1, 12.2, 12.4, R82, R145, R187, R188, R189: every cell that is built passes its check, has its header and, octet by octet, its
payload as the layouts give them; and a REQ, DATA or SYNC cell gives its fields back, whatever the fields. -/
def Obligations.CellsGiveTheirFieldsBack : Prop :=
  (∀ (op : BitVec 4) (code : Octet) (q : Request),
    let c := requestCell op code q
    c.check = checkOf c.header c.payload ∧ c.header = 3#3 ++ 0#6 ++ q.dest ++ 0#16 ∧
    octetOf c.payload 0 = q.manager ++ 0#2 ++ op ∧ octetOf c.payload 1 = q.tag ∧ wordOf c.payload 2 = q.epoch ∧
    octetOf c.payload 4 = code ∧ wordOf c.payload 5 = q.first ∧ octetOf c.payload 7 = q.count ∧
    (∀ i < 32, octetOf c.payload (8 + i) = dataOctet q.data i) ∧
    kindOf c = 3 ∧ operationOf c = op ∧ itemCodeOf c = code ∧ requestOf c = q) ∧
  (∀ (id : StreamId) (tag : Tag) (p : Payload),
    let c := dataCell id tag p
    c.check = checkOf c.header c.payload ∧ c.header = 2#3 ++ 0#1 ++ id ++ 0#2 ++ tag ++ 0#8 ∧
    kindOf c = 2 ∧ streamOf c = id ∧ tagOf c = tag ∧ c.payload = p) ∧
  (∀ n : Word16,
    let c := syncCell n
    c.check = checkOf c.header c.payload ∧ c.header = 1#3 ++ 0#13 ++ n ∧ kindOf c = 1 ∧ numberOf c = n ∧ c.payload = 0) ∧
  (idleCell.check = checkOf idleCell.header idleCell.payload ∧ idleCell.header = 0#3 ++ 0#29 ∧ kindOf idleCell = 0 ∧
    ∀ i < 40, octetOf idleCell.payload i = 0) ∧
  (∀ (node : Address) (r : Reply),
    let c := replyCell node r
    c.check = checkOf c.header c.payload ∧ c.header = 4#3 ++ 0#6 ++ node ++ 0#16 ∧
    octetOf c.payload 0 = r.manager ++ 0#6 ∧ octetOf c.payload 1 = r.tag ∧
    (octetOf c.payload 2).toNat = codeIn statusNames r.status ∧ octetOf c.payload 3 = r.count ∧ wordOf c.payload 4 = r.detail ∧
    (∀ i < 32, octetOf c.payload (6 + i) = dataOctet r.data i) ∧ octetOf c.payload 38 = 0 ∧ octetOf c.payload 39 = 0) ∧
  ∀ (node : Address) (lost : Bool) (es : List EventEntry), es.length ≤ 4 →
    let c := eventCell node lost es
    c.check = checkOf c.header c.payload ∧ c.header = 5#3 ++ 0#6 ++ node ++ 0#16 ∧
    octetOf c.payload 0 = BitVec.ofBool lost ++ 0#4 ++ BitVec.ofNat 3 es.length ∧ octetOf c.payload 1 = 0 ∧
    (∀ (j : Nat) (e : EventEntry), es[j]? = some e →
      (octetOf c.payload (2 + 8 * j)).toNat = codeIn kindNames e.kind ∧
      octetOf c.payload (3 + 8 * j) = BitVec.ofBool e.object.isSome ++ BitVec.ofBool e.argument.isSome ++ 0#6 ∧
      octetOf c.payload (4 + 8 * j) = (match e.object with | some o => o | none => 0) ∧
      wordOf c.payload (5 + 8 * j) = (match e.argument with | some a => a | none => 0) ∧
      wordOf c.payload (7 + 8 * j) = e.firstCycle ∧ octetOf c.payload (9 + 8 * j) = e.repeats) ∧
    ∀ i < 40, 2 + 8 * es.length ≤ i → octetOf c.payload i = 0

/-- R188: octets put into a data area are read back at their places with zeros after them, two octets make a number with the
most significant first, and the entries of every writable class are read back, at the place of every entry that one request may
hold, as they were laid out. An entry is refused exactly when a field lies outside its range or a code names nothing (R19, R56,
R101, R160, R170, R188), and its fields are those at its octets. That spare bits, and a record index without use, are not read
follows log 20. -/
def Obligations.EntryEncodingsRoundTrip : Prop :=
  (∀ (os : List Octet) (i : Nat), os.length ≤ 32 → i < 32 → dataOctet (packData os) i = os[i]?.getD 0) ∧
  (∀ (d : DataArea) (i : Nat), i < 31 → dataWord d i = dataOctet d i ++ dataOctet d (i + 1)) ∧
  -- MAP, SHADOW_SLOT and BANK_LENGTH
  (∀ (es : List MapEntry) (j : Nat) (e : MapEntry), es.length ≤ 16 → es[j]? = some e →
    MapEntry.ofWord (dataWord (packData (es.flatMap fun x => wordField x.number)) (2 * j)) = some e) ∧
  (∀ w : Word16, (MapEntry.ofWord w = none ↔ w.toNat / 16384 = 3) ∧ (MapEntry.ofWord w = some .pass ↔ w.toNat / 16384 = 0) ∧
    (MapEntry.ofWord w = some .drop ↔ w.toNat / 16384 = 1) ∧
    ∀ r : RecordIndex, MapEntry.ofWord w = some (.bound r) ↔ w.toNat / 16384 = 2 ∧ w.toNat % 256 = r.toNat) ∧
  (∀ (es : List SlotEntry) (j : Nat) (e : SlotEntry), es.length ≤ 16 → es[j]? = some e →
    SlotEntry.ofWord (dataWord (packData (es.flatMap fun x => wordField x.number)) (2 * j)) = some e) ∧
  (∀ w : Word16, (SlotEntry.ofWord w = none ↔ 2 < w.toNat / 256) ∧ (SlotEntry.ofWord w = some .quiet ↔ w.toNat / 256 = 0) ∧
    (SlotEntry.ofWord w = some .openSlot ↔ w.toNat / 256 = 1) ∧
    ∀ r : RecordIndex, SlotEntry.ofWord w = some (.stream r) ↔ w.toNat / 256 = 2 ∧ w.toNat % 256 = r.toNat) ∧
  (∀ (ns : List Nat) (j n : Nat), ns.length ≤ 2 → ns[j]? = some n → n ≤ 1024 →
    (dataWord (packData (ns.flatMap wordField)) (2 * j)).toNat = n) ∧
  -- RECORD_CONFIG
  (∀ (cs : List RecordConfig) (j : Nat) (c : RecordConfig), cs.length ≤ 5 → cs[j]? = some c → 1 ≤ c.depthLimit → c.depthLimit ≤ 32 →
    RecordConfig.ofData (packData (cs.flatMap RecordConfig.layout)) (6 * j) = some c) ∧
  (∀ (d : DataArea) (i : Nat),
    (RecordConfig.ofData d i = none ↔ 2 < (dataOctet d i).toNat ∨ (dataOctet d (i + 1)).toNat = 0 ∨ 32 < (dataOctet d (i + 1)).toNat ∨
      1 < (dataOctet d (i + 2)).toNat ∨ 2 < (dataOctet d (i + 3)).toNat ∨ 31 < (dataOctet d (i + 5)).toNat) ∧
    ∀ c, RecordConfig.ofData d i = some c →
      [Delivery.downstream, .localOnly, .both][(dataOctet d i).toNat]? = some c.delivery ∧
      c.depthLimit = (dataOctet d (i + 1)).toNat ∧
      [OverflowPolicy.dropNew, .dropOldest][(dataOctet d (i + 2)).toNat]? = some c.overflow ∧
      [MissPolicy.idleCell, .repeatLast, .yieldSlot][(dataOctet d (i + 3)).toNat]? = some c.missPolicy ∧
      c.faultThreshold = dataOctet d (i + 4) ∧ c.retag.toNat = (dataOctet d (i + 5)).toNat) ∧
  -- LINE
  (∀ (ls : List Line) (j : Nat) (l : Line), ls.length ≤ 3 → ls[j]? = some l → l.bitIndex ≤ 319 →
    LineConfig.ofData (packData (ls.flatMap Line.layout)) (9 * j) =
      some { source := l.source, bitIndex := l.bitIndex, polarity := l.polarity, safeLevel := l.safeLevel }) ∧
  (∀ (d : DataArea) (i : Nat),
    (LineConfig.ofData d i = none ↔ (255 < (dataWord d i).toNat ∧ (dataWord d i).toNat ≠ 0xFFFF) ∨ 319 < (dataWord d (i + 2)).toNat ∨
      1 < (dataOctet d (i + 4)).toNat ∨ 1 < (dataOctet d (i + 5)).toNat) ∧
    ∀ c, LineConfig.ofData d i = some c →
      c.source = (if (dataWord d i).toNat = 0xFFFF then none else some (BitVec.ofNat 8 (dataWord d i).toNat)) ∧
      c.bitIndex = (dataWord d (i + 2)).toNat ∧ [Polarity.direct, .inverted][(dataOctet d (i + 4)).toNat]? = some c.polarity ∧
      [Level.low, .high][(dataOctet d (i + 5)).toNat]? = some c.safeLevel) ∧
  -- SETTINGS
  (∀ s : State, SettingsLaw s → Settings.ofData (packData s.settings.layout) = some s.settings) ∧
  ∀ d : DataArea,
    let guard := (dataWord d 0).toNat
    let window := (dataWord d 5).toNat
    let lockWindow := (dataWord d 7).toNat
    (Settings.ofData d = none ↔ guard < 64 ∨ 1024 < guard ∨ 1 < (dataOctet d 2).toNat ∨ 4095 < (dataWord d 3).toNat ∨ window < 16 ∨
      4095 < window ∨ lockWindow < 4 ∨ window < lockWindow ∨ (dataOctet d 9).toNat = 0 ∨ 1 < (dataOctet d 10).toNat ∨
      (dataOctet d 13).toNat = 0 ∨ (dataOctet d 14).toNat = 0) ∧
    ∀ g, Settings.ofData d = some g →
      g.guard = guard ∧ [CycleSource.loc, .line][(dataOctet d 2).toNat]? = some g.source ∧ g.latency = (dataWord d 3).toNat ∧
      g.window = window ∧ g.lockWindow = lockWindow ∧ g.holdoverLimit = (dataOctet d 9).toNat ∧
      [false, true][(dataOctet d 10).toNat]? = some g.mark ∧
      (∀ i < 14, g.mask.getLsbD i = (decide (i ≠ 0) && (dataWord d 11).getLsbD i)) ∧
      g.leaseTimeout = (dataOctet d 13).toNat ∧ g.claimGrace = (dataOctet d 14).toNat

/-- R141: 8,192 ticks after the last valid cell of a side that is UP, the side goes DOWN, its timer stops, and LINK_CHANGE is
offered with the side (0 U-in, 1 D-in) and DOWN (0). -/
def Obligations.LossTimerTakesASideDown : Prop :=
  ∀ (s : State) (last : Nat), s.pinHeld = false →
    (s.uIn = { status := .up, lastValid := some last } → exec (.lossTimerExpiry .uIn) s =
      .next (({ s with now := max s.now (last + 8192), uIn := { status := .down, lastValid := none } } : State).offerEvent
        .linkChange (some 0) (some 0))) ∧
    (s.dIn = { status := .up, lastValid := some last } → exec (.lossTimerExpiry .dIn) s =
      .next (({ s with now := max s.now (last + 8192), dIn := { status := .down, lastValid := none } } : State).offerEvent
        .linkChange (some 1) (some 0)))

/-- R16, R51, R52, R139: a DATA cell whose entry is DROP is counted; one whose entry is PASS, and the REQ cell of a request for
another gate, go to the Pass Queue, or are counted as pass drops, with POOL_EXHAUSTED only when the queue has room and the
pool is empty (`State.passed`). That the arrival's LINK_CHANGE comes before POOL_EXHAUSTED is the model's choice (log 24). -/
def Obligations.UnboundCellsPassOrDrop : Prop :=
  ∀ (s : State) (dt : Nat), s.pinHeld = false →
    let u := s.heard dt .uIn
    (∀ c : Cell, s.mapEntry (streamOf c) = .drop → exec (.dataArrival dt c) s =
      .next { u with ports := { u.ports with uMapDrops := saturate u.ports.uMapDrops } }) ∧
    (∀ c : Cell, s.mapEntry (streamOf c) = .pass → exec (.dataArrival dt c) s = .next (u.passed c u)) ∧
    ∀ (i : Instr) (op : BitVec 4) (code : Octet) (q : Request), requestRow i = some (dt, op, code, q) →
      q.dest ≠ s.nodeAddress → q.dest ≠ 127#7 → exec i s = .next (u.passed (requestCell op code q) u)

/-- R42, R43, R44, R45, R46: a DATA cell bound to record r is refused and counted in IDLE and FAULTED, and otherwise placed by
queue length, free count and overflow policy. That the arrival's LINK_CHANGE comes before POOL_EXHAUSTED is the model's choice
(log 24). -/
def Obligations.RecordAdmission : Prop :=
  ∀ (s : State) (dt : Nat) (c : Cell) (r : RecordIndex), s.pinHeld = false → s.mapEntry (streamOf c) = .bound r →
    let u := s.heard dt .uIn
    let x := s.record r
    let refused := u.setRecord r { x with counters := { x.counters with refused := saturate x.counters.refused } }
    let replaced := u.setRecord r
      { x with queue := x.queue.tail ++ [c], counters := { x.counters with late := saturate x.counters.late } }
    let admits := x.state = .filling ∨ x.state = .starting ∨ x.state = .running ∨ x.state = .paused
    (x.state = .idle ∨ x.state = .faulted → exec (.dataArrival dt c) s = .next refused) ∧
    (admits → x.queue.length < x.config.depthLimit → 0 < s.free → exec (.dataArrival dt c) s =
      .next (({ u with free := s.free - 1 } : State).setRecord r { x with queue := x.queue ++ [c] })) ∧
    (admits → x.config.depthLimit ≤ x.queue.length → x.config.overflow = .dropNew →
      exec (.dataArrival dt c) s = .next refused) ∧
    (admits → x.config.depthLimit ≤ x.queue.length → x.config.overflow = .dropOldest →
      exec (.dataArrival dt c) s = .next replaced) ∧
    (admits → x.queue.length < x.config.depthLimit → s.free = 0 → x.config.overflow = .dropOldest → x.queue ≠ [] →
      exec (.dataArrival dt c) s = .next replaced) ∧
    (admits → x.queue.length < x.config.depthLimit → s.free = 0 → x.config.overflow = .dropNew ∨ x.queue = [] →
      exec (.dataArrival dt c) s = .next (refused.offerEvent .poolExhausted none none))

/-- R153 with R156: mask, match, new entry, lost, in this order, and nothing but the Event Queue and the lost marker
changes. No two entries of the queue come to hold the same kind and object. -/
def Obligations.EventsAreOfferedInOrder : Prop :=
  ∀ (s : State) (kind : EventKind) (object : Option (BitVec 8)) (argument : Option Word16),
    let t := s.offerEvent kind object argument
    let held := ∃ e ∈ s.events, e.kind = kind ∧ e.object = object
    t = { s with events := t.events, lost := t.lost } ∧
    (s.settings.mask.getLsbD kind.code.toNat = true → t.events = s.events ∧ t.lost = s.lost) ∧
    (s.settings.mask.getLsbD kind.code.toNat = false → held →
      t.lost = s.lost ∧ t.events = s.events.map fun e =>
        if e.kind = kind ∧ e.object = object then { e with repeats := saturate e.repeats, argument := argument } else e) ∧
    (s.settings.mask.getLsbD kind.code.toNat = false → ¬held → s.events.length < 32 →
      t.lost = s.lost ∧ t.events = s.events ++
        [{ kind := kind, object := object, argument := argument, firstCycle := s.timer.number, repeats := 1 }]) ∧
    (s.settings.mask.getLsbD kind.code.toNat = false → ¬held → 32 ≤ s.events.length →
      t.lost = true ∧ t.events = s.events) ∧
    ((s.events.map fun e => (e.kind, e.object)).Nodup → (t.events.map fun e => (e.kind, e.object)).Nodup)

/-! ### SYNC cells and sync windows -/

/-- R114, R117: in LOCAL mode a SYNC cell is counted as ignored; in LINE mode one that arrives in ACQUIRING, TRACKING or
HOLDOVER with no open and unspent window is counted as outside any window. Nothing else changes. That a window which opened in the
happening of another's end is open for an arrival on that tick is the model's choice (log 25). -/
def Obligations.SyncCellsIgnored : Prop :=
  ∀ (s : State) (dt : Nat) (n : Word16), s.pinHeld = false →
    let u := s.heard dt .uIn
    (s.settings.source = .loc → exec (.syncArrival dt n) s =
      .next { u with ports := { u.ports with uSyncIgnored := saturate u.ports.uSyncIgnored } }) ∧
    (s.settings.source = .line → s.lock.state = .acquiring ∨ s.lock.state = .tracking ∨ s.lock.state = .holdover →
      (∀ w ∈ s.lock.window, ¬w.takes) → exec (.syncArrival dt n) s =
        .next { u with ports := { u.ports with uOutOfWindow := saturate u.ports.uOutOfWindow } })

/-- R120, R122: a SYNC cell that arrives in SEEKING, or in an ACQUIRING window without matching or without being in lock, seeds
the cycle from its number and its arrival tick. That the arrival's LINK_CHANGE comes before LOCK_STATE (log 24), and that a window
which opened in the happening of another's end takes an arrival on that tick (log 25), are the model's choices. -/
def Obligations.SyncCellsSeed : Prop :=
  ∀ (s : State) (dt : Nat) (n : Word16), s.pinHeld = false → s.settings.source = .line →
    let u := s.heard dt .uIn
    (s.lock.state = .seeking → exec (.syncArrival dt n) s = .next (u.seeds n)) ∧
    ∀ w, s.lock.state = .acquiring → s.lock.window = some w → w.takes → n ≠ u.expects w ∨ ¬u.isInLock w →
      exec (.syncArrival dt n) s = .next (u.seeds n)

/-- R121, R118: a matching SYNC cell in lock in an ACQUIRING window has its trim applied and advances the acquisition count;
at 3 the lock is TRACKING with LOCK_STATE TRACKING (3), ACQUIRED (1). That the arrival's LINK_CHANGE comes before LOCK_STATE (log
24), and that a window which opened in the happening of another's end takes an arrival on that tick (log 25), are the model's
choices. -/
def Obligations.SyncCellsAcquire : Prop :=
  ∀ (s : State) (dt : Nat) (n : Word16) (w : Window), s.pinHeld = false → s.settings.source = .line →
    s.lock.state = .acquiring → s.lock.window = some w → w.takes →
    let u := s.heard dt .uIn
    n = u.expects w → u.isInLock w →
    let t := (u.spends w).trims w (limited (u.phase w))
    (s.lock.acquisition + 1 < 3 → exec (.syncArrival dt n) s =
      .next (t.locks .acquiring (s.lock.acquisition + 1) s.lock.excursion s.lock.holdover)) ∧
    (3 ≤ s.lock.acquisition + 1 → exec (.syncArrival dt n) s =
      .next ((t.locks .tracking (s.lock.acquisition + 1) 0 0).offerEvent .lockState (some 3) (some 1)))

/-- R124, R119, R118: in TRACKING a SYNC cell in the window is checked for a slip and trimmed, the excursion count follows, and
at 3 the lock is lost with EXCURSION (3). That a NUMBER_SLIP entry has the new number as its first cycle, and that it comes after
the arrival's LINK_CHANGE and before LOCK_STATE, is the model's choice (logs 14, 24); so is that a window which opened in the
happening of another's end takes an arrival on that tick (log 25). -/
def Obligations.SyncCellsTrack : Prop :=
  ∀ (s : State) (dt : Nat) (n : Word16) (w : Window), s.pinHeld = false → s.settings.source = .line →
    s.lock.state = .tracking → s.lock.window = some w → w.takes →
    let u := s.heard dt .uIn
    let t := ((u.spends w).slips w n).trims w (limited (u.phase w))
    (u.isInLock w → exec (.syncArrival dt n) s = .next (t.locks .tracking s.lock.acquisition 0 s.lock.holdover)) ∧
    (¬u.isInLock w → s.lock.excursion + 1 < 3 → exec (.syncArrival dt n) s =
      .next (t.locks .tracking s.lock.acquisition (s.lock.excursion + 1) s.lock.holdover)) ∧
    (¬u.isInLock w → 3 ≤ s.lock.excursion + 1 → exec (.syncArrival dt n) s = .next (t.unlocks 3))

/-- R126, R119, R118: in HOLDOVER a SYNC cell in the window is checked for a slip and trimmed; in lock it recovers TRACKING
(LOCK_STATE 3, RECOVERED 5), otherwise both counts advance, EXCURSION (3) before HOLDOVER_EXPIRED (4). That a NUMBER_SLIP entry
has the new number as its first cycle, and that it comes after the arrival's LINK_CHANGE and before LOCK_STATE, is the model's
choice (logs 14, 24); so is that a window which opened in the happening of another's end takes an arrival on that tick (log 25). -/
def Obligations.SyncCellsRecover : Prop :=
  ∀ (s : State) (dt : Nat) (n : Word16) (w : Window), s.pinHeld = false → s.settings.source = .line →
    s.lock.state = .holdover → s.lock.window = some w → w.takes →
    let u := s.heard dt .uIn
    let t := ((u.spends w).slips w n).trims w (limited (u.phase w))
    let h := min (s.lock.holdover + 1) 255
    (u.isInLock w → exec (.syncArrival dt n) s =
      .next ((t.locks .tracking s.lock.acquisition 0 0).offerEvent .lockState (some 3) (some 5))) ∧
    (¬u.isInLock w → 3 ≤ s.lock.excursion + 1 → exec (.syncArrival dt n) s = .next (t.unlocks 3)) ∧
    (¬u.isInLock w → s.lock.excursion + 1 < 3 → s.settings.holdoverLimit ≤ h →
      exec (.syncArrival dt n) s = .next (t.unlocks 4)) ∧
    (¬u.isInLock w → s.lock.excursion + 1 < 3 → h < s.settings.holdoverLimit →
      exec (.syncArrival dt n) s = .next (t.locks .holdover s.lock.acquisition (s.lock.excursion + 1) h))

/-- R116, R123, R125, R127: a window opens and ends on its ticks. The end of a spent window fixes the next one; the end of an
unspent one hands a trim of 0 and moves the lock: SEEKING with MISSED (2), HOLDOVER (4) with MISSED, or SEEKING with
HOLDOVER_EXPIRED (4). For windows of the current cycle, where every window ends in LINE mode (R116). -/
def Obligations.SyncWindowsOpenAndEnd : Prop :=
  ∀ (s : State) (w : Window), s.pinHeld = false → s.lock.window = some w →
    (w.isOpen = false → exec .syncWindowOpen s =
      .next { s with now := max s.now w.opening, lock := { s.lock with window := some { w with isOpen := true } } }) ∧
    (w.isOpen = true → w.boundary = s.timer.start →
      let u : State := { s with now := max s.now w.ending }
      let t := u.trims w 0
      let h := min (s.lock.holdover + 1) 255
      (w.spent = true → exec .syncWindowEnd s = .next (u.followed w)) ∧
      (w.spent = false → s.lock.state = .acquiring → exec .syncWindowEnd s = .next (t.unlocks 2)) ∧
      (w.spent = false → s.lock.state = .tracking → 1 < s.settings.holdoverLimit → exec .syncWindowEnd s =
        .next (((t.locks .holdover s.lock.acquisition s.lock.excursion 1).followed w).offerEvent .lockState (some 4) (some 2))) ∧
      (w.spent = false → s.lock.state = .tracking → s.settings.holdoverLimit ≤ 1 → exec .syncWindowEnd s = .next (t.unlocks 4)) ∧
      (w.spent = false → s.lock.state = .holdover → s.settings.holdoverLimit ≤ h → exec .syncWindowEnd s =
        .next (t.unlocks 4)) ∧
      (w.spent = false → s.lock.state = .holdover → h < s.settings.holdoverLimit → exec .syncWindowEnd s =
        .next ((t.locks .holdover s.lock.acquisition s.lock.excursion h).followed w)))

/-! ### The agent's checks -/

/-- R161: with 16 reply records held, every request is dropped: counted, REPLY_DROPPED offered with its manager and tag, and a
broadcast cell still offered to the Pass Queue. (On broadcast: log 6; REPLY_DROPPED after LINK_CHANGE: log 24.) -/
def Obligations.FullReplyQueueDropsRequests : Prop :=
  ∀ (s : State) (i : Instr) (dt : Nat) (op : BitVec 4) (code : Octet) (q : Request),
    requestRow i = some (dt, op, code, q) → s.reached q → 16 ≤ s.replies.length →
    exec i s = .next (s.carried dt op code q fun u =>
      ({ u with ports := { u.ports with uReplyDrops := saturate u.ports.uReplyDrops } } : State).offerEvent .replyDropped
        (some (q.manager.setWidth 8)) (some (q.tag.setWidth 16)))

/-- R162: with room, a request whose tag is its manager's cached tag gets a copy of the cached reply and is not executed. (On
broadcast: log 6.) -/
def Obligations.RepeatedTagsAreAnsweredFromTheCache : Prop :=
  ∀ (s : State) (i : Instr) (dt : Nat) (op : BitVec 4) (code : Octet) (q : Request) (r : Reply),
    requestRow i = some (dt, op, code, q) → s.reached q → s.replies.length < 16 → s.cached q.manager = some r → r.tag = q.tag →
    exec i s = .next (s.carried dt op code q fun u => { u with replies := s.replies ++ [r] })

/-- R163, checks 1 to 6, on a REQ cell with any operation and code, unicast or broadcast; the row WRITE, of a read-only class, is
check 3. (On broadcast: log 6.) -/
def Obligations.MalformedRequestsAreRefused : Prop :=
  ∀ (s : State) (dt : Nat) (op : BitVec 4) (code : Octet) (q : Request) (straps : Address), s.taken q →
    let refused (status : Status) (detail : Word16) :=
      exec (.cellArrival dt .uIn (requestCell op code q) straps) s =
        .next (s.carried dt op code q fun u => u.answered q status detail)
    (3 < op.toNat → refused .badOperation 0) ∧
    (op.toNat ≤ 1 → 11 < code.toNat → refused .badItem 0) ∧
    (op = 2 → (code.toNat = 0 ∨ 7 < code.toNat) → code ∉ [0x10, 0x11, 0x12, 0x13, 0x20, 0x21, 0x30, 0x31] →
      refused .badOperation 0) ∧
    (op = 3 → 3 < code.toNat → refused .badOperation 0) ∧
    (∀ cls : ItemClass, cls.readOnly = true → exec (.write dt cls q) s =
      .next (s.carried dt 1 cls.code q fun u => u.answered q .badOperation 0)) ∧
    (∀ cls : ItemClass, code = cls.code → op = 0 ∨ op = 1 ∧ cls.readOnly = false →
      (q.count.toNat = 0 ∨ cls.maxCount < q.count.toNat → refused .badItem 0) ∧
      (1 ≤ q.count.toNat → q.count.toNat ≤ cls.maxCount → cls.size < q.first.toNat + q.count.toNat →
        refused .badItem (BitVec.ofNat 16 (max cls.size q.first.toNat)))) ∧
    (∀ cls : ItemClass, code = cls.code → op = 1 → cls = .shadowSlot ∨ cls = .bankLength → q.within cls → q.first = 0 →
      refused .badItem 0) ∧
    (op = 2 → 1 ≤ code.toNat → code.toNat ≤ 7 → 255 < q.first.toNat ∨ q.count ≠ 1 → refused .badItem 0)

/-- R164, R165: a request of the right form that is a WRITE, a LEASE request or a reset is refused on broadcast; any other
COMMAND, and a unicast WRITE or COMMAND, is refused while the lease is FREE (255), while another manager holds it, and, as
unicast, under another epoch. (On broadcast: log 6.) -/
def Obligations.BroadcastAndLeaseRefusals : Prop :=
  ∀ (s : State) (dt : Nat) (op : BitVec 4) (code : Octet) (q : Request) (straps : Address), s.taken q → passesForm op code q →
    let refused (status : Status) (detail : Word16) :=
      exec (.cellArrival dt .uIn (requestCell op code q) straps) s =
        .next (s.carried dt op code q fun u => u.answered q status detail)
    let barred := op = 1 ∨ op = 3 ∨ op = 2 ∧ (code = 0x30 ∨ code = 0x31)
    (q.dest = 127#7 → barred → refused .notOnBroadcast 0) ∧
    (op = 1 ∨ op = 2 → q.dest ≠ 127#7 ∨ ¬barred →
      (s.lease.state = .free → refused .notHolder 255) ∧
      (∀ h, s.lease.state = .held → s.lease.holder = some h → h ≠ q.manager → refused .notHolder (h.setWidth 16)) ∧
      (s.lease.state = .held → s.lease.holder = some q.manager → q.dest ≠ 127#7 → q.epoch ≠ s.lease.epoch →
        refused .staleEpoch s.lease.epoch))

/-! ### READ and WRITE -/

/-- R168, R167, R188, R21, R59, R104, R144: a READ returns the named entries of any class as they stand, each octet by octet in the
layout of 12.2 (`State.entryLayout`), end to end in index order, with their count. (On broadcast: log 6.) -/
def Obligations.ReadReturnsTheEntries : Prop :=
  ∀ (s : State) (dt : Nat) (cls : ItemClass) (q : Request), s.taken q → q.within cls →
    exec (.read dt cls q) s = .next (s.carried dt 0 cls.code q fun u => u.replied
      { manager := q.manager, tag := q.tag, status := .ok, detail := 0, count := q.count,
        data := packData ((List.range q.count.toNat).flatMap fun j => u.entryLayout cls (q.index j)) })

/-- R17, R18: a map write is refused whole at its first refused entry, with that entry's status and identifier; else every named
entry takes its value, a record that a named entry binds is bound to it, and a record that a named entry bound before, and none
binds now, is unbound; nothing else of a record changes. Map and records agree beforehand (BindingLaw). -/
def Obligations.WriteMapBindsAndUnbinds : Prop :=
  ∀ (s : State) (dt : Nat) (q : Request) (e : Nat → MapEntry), s.allowedAlone q → q.within .map → BindingLaw s →
    (∀ j status, firstRefused (s.mapJudgement q) q.count.toNat j status → exec (.writeMap dt q) s =
      .next (s.carried dt 1 0x4 q fun u => u.answered q status (BitVec.ofNat 16 (q.index j)))) ∧
    ((∀ j < q.count.toNat, s.mapJudgement q j = none ∧ MapEntry.ofWord (dataWord q.data (2 * j)) = some (e j)) →
      ∃ (map : Vector MapEntry 4096) (records : Vector Record 256),
        exec (.writeMap dt q) s = .next (s.carried dt 1 0x4 q fun u => ({ u with map := map, records := records } : State).answered q
          (if ∃ j < q.count.toNat, e j ≠ s.mapEntry (BitVec.ofNat 12 (q.index j)) then .ok else .noChange) 0) ∧
        (∀ id : StreamId, map[id.toNat]'(id.isLt) =
          if q.first.toNat ≤ id.toNat ∧ id.toNat < q.first.toNat + q.count.toNat then e (id.toNat - q.first.toNat)
          else s.mapEntry id) ∧
        (∀ (r : RecordIndex) (j : Nat), j < q.count.toNat → e j = .bound r →
          records[r.toNat]'(r.isLt) = { s.record r with bound := some (BitVec.ofNat 12 (q.index j)) }) ∧
        ∀ r : RecordIndex, (∀ j < q.count.toNat, e j ≠ .bound r) → records[r.toNat]'(r.isLt) =
          { s.record r with
            bound := if ∃ j < q.count.toNat, s.mapEntry (BitVec.ofNat 12 (q.index j)) = .bound r then none else (s.record r).bound })

/-- R20: a RECORD_CONFIG write is refused whole at its first refused record; else every named record takes its six values, an
UNUSED one being allocated as IDLE, unbound and empty with its counters 0. -/
def Obligations.WriteRecordConfigAllocates : Prop :=
  ∀ (s : State) (dt : Nat) (q : Request) (c : Nat → RecordConfig), s.allowedAlone q → q.within .recordConfig →
    (∀ j status, firstRefused (s.configJudgement q) q.count.toNat j status → exec (.writeRecordConfig dt q) s =
      .next (s.carried dt 1 0x5 q fun u => u.answered q status (BitVec.ofNat 16 (q.index j)))) ∧
    ((∀ j < q.count.toNat, s.configJudgement q j = none ∧ RecordConfig.ofData q.data (6 * j) = some (c j)) →
      ∃ records : Vector Record 256,
        exec (.writeRecordConfig dt q) s = .next (s.carried dt 1 0x5 q fun u => ({ u with records := records } : State).answered q
          (if ∃ j < q.count.toNat, (s.record (BitVec.ofNat 8 (q.index j))).state = .unused ∨
            (s.record (BitVec.ofNat 8 (q.index j))).config ≠ c j then .ok else .noChange) 0) ∧
        (∀ r : RecordIndex, ¬(q.first.toNat ≤ r.toNat ∧ r.toNat < q.first.toNat + q.count.toNat) →
          records[r.toNat]'(r.isLt) = s.record r) ∧
        ∀ (r : RecordIndex) (j : Nat), j < q.count.toNat → r.toNat = q.index j → records[r.toNat]'(r.isLt) =
          if (s.record r).state = .unused then
            { state := .idle, bound := none, config := c j, misses := 0, lastValue := none, queue := [],
              counters := { released := 0, repeated := 0, missed := 0, early := 0, late := 0, refused := 0 } }
          else { s.record r with config := c j })

/-- R60, R61 in the shadow condition FREE: a SHADOW_SLOT write is refused whole at its first entry that names no kind, else every
named entry takes its value; a BANK_LENGTH write of entry 1 takes 0 or 8..1024 and refuses any other value with detail 1. -/
def Obligations.ShadowWrites : Prop :=
  ∀ (s : State) (dt : Nat) (q : Request) (e : Nat → SlotEntry), s.allowedAlone q → q.first ≠ 0 → s.banks.condition = .free →
    (∀ j, q.within .shadowSlot → firstRefused (slotJudgement q) q.count.toNat j .badValue → exec (.writeShadowSlot dt q) s =
      .next (s.carried dt 1 0x9 q fun u => u.answered q .badValue (BitVec.ofNat 16 (q.index j)))) ∧
    (q.within .shadowSlot → (∀ j < q.count.toNat, SlotEntry.ofWord (dataWord q.data (2 * j)) = some (e j)) → ∃ shadow : Bank,
      exec (.writeShadowSlot dt q) s = .next (s.carried dt 1 0x9 q fun u =>
        ({ u with banks := { s.banks with shadow := shadow } } : State).answered q
          (if ∃ j < q.count.toNat, e j ≠ s.banks.shadow.entry (q.index j) then .ok else .noChange) 0) ∧
      shadow.length = s.banks.shadow.length ∧
      ∀ k < 1024, shadow.entry k =
        if q.first.toNat ≤ k ∧ k < q.first.toNat + q.count.toNat then e (k - q.first.toNat) else s.banks.shadow.entry k) ∧
    (q.within .bankLength →
      let n := (dataWord q.data 0).toNat
      (n = 0 ∨ 8 ≤ n ∧ n ≤ 1024 → exec (.writeBankLength dt q) s = .next (s.carried dt 1 0xA q fun u =>
        ({ u with banks := { s.banks with shadow := { s.banks.shadow with length := n } } } : State).answered q
          (if n ≠ s.banks.shadow.length then .ok else .noChange) 0)) ∧
      (¬(n = 0 ∨ 8 ≤ n ∧ n ≤ 1024) → exec (.writeBankLength dt q) s = .next (s.carried dt 1 0xA q fun u =>
        u.answered q .badValue 1)))

/-- R103: a LINE write is refused whole at its first refused line; else every named line takes its four values, loses a staged
value, has its applied value LOW and is SAFE with a source, DISABLED without one. -/
def Obligations.WriteLineSetsLines : Prop :=
  ∀ (s : State) (dt : Nat) (q : Request) (c : Nat → LineConfig), s.allowedAlone q → q.within .line →
    let made (j : Nat) : Line :=
      { source := (c j).source, bitIndex := (c j).bitIndex, polarity := (c j).polarity, safeLevel := (c j).safeLevel,
        state := if (c j).source = none then .disabled else .safe, applied := .low, staged := none }
    (∀ j status, firstRefused (s.lineJudgement q) q.count.toNat j status → exec (.writeLine dt q) s =
      .next (s.carried dt 1 0xB q fun u => u.answered q status (BitVec.ofNat 16 (q.index j)))) ∧
    ((∀ j < q.count.toNat, s.lineJudgement q j = none ∧ LineConfig.ofData q.data (9 * j) = some (c j)) →
      ∃ lines : Vector Line 8,
        exec (.writeLine dt q) s = .next (s.carried dt 1 0xB q fun u => ({ u with lines := lines } : State).answered q
          (if ∃ j < q.count.toNat, { made j with applied := (s.line (BitVec.ofNat 3 (q.index j))).applied } ≠
            s.line (BitVec.ofNat 3 (q.index j)) then .ok else .noChange) 0) ∧
        ∀ i : BitVec 3, lines[i.toNat]'(i.isLt) =
          if q.first.toNat ≤ i.toNat ∧ i.toNat < q.first.toNat + q.count.toNat then made (i.toNat - q.first.toNat) else s.line i)

/-- R170, R115, R72, R130, R156: a SETTINGS write is refused BAD_VALUE when a field is out of range or names nothing, or, in LINE
mode after it, when L + W reaches the span of a valid active bank or of a pending plan; else every field is taken, and a change
of the cycle source restarts the lock. That the arrival's LINK_CHANGE comes before LOCK_STATE is the model's choice (log 24). -/
def Obligations.WriteSettingsTakesEveryField : Prop :=
  ∀ (s : State) (dt : Nat) (q : Request), s.allowedAlone q → q.within .settings →
    let pending := ∃ target, s.banks.condition = .swapPending target
    let overruns (g : Settings) := g.source = .line ∧
      ((8 ≤ s.banks.active.length ∧ s.banks.active.length ≤ 1024 ∧ s.banks.active.length * 512 ≤ g.latency + g.window) ∨
        pending ∧ s.banks.shadow.length * 512 ≤ g.latency + g.window)
    (Settings.ofData q.data = none → exec (.writeSettings dt q) s =
      .next (s.carried dt 1 0x2 q fun u => u.answered q .badValue 0)) ∧
    (∀ g, Settings.ofData q.data = some g → overruns g → exec (.writeSettings dt q) s =
      .next (s.carried dt 1 0x2 q fun u => u.answered q .badValue 0)) ∧
    ∀ g, Settings.ofData q.data = some g → ¬overruns g →
      (exec (.writeSettings dt q) s = .next (s.carried dt 1 0x2 q fun u =>
        State.answered (if g.source = s.settings.source then { u with settings := g } else ({ u with settings := g } : State).relocks)
          q (if g ≠ s.settings then .ok else .noChange) 0)) ∧ g.mask.getLsbD 0 = false

/-! ### Record commands -/

/-- R22, R23, R24, R25, R108: FILL, START, PAUSE and RESUME where the table names a state. START sets the consecutive misses to 0
and takes the record's lines to SAFE. (On broadcast: log 6.) -/
def Obligations.FillStartPauseResume : Prop :=
  ∀ (s : State) (dt : Nat) (q : Request), s.allowedRecord q →
    let x := s.record q.record
    (x.state = .idle ∨ x.state = .faulted → exec (.fill dt q) s =
      .next (s.carried dt 2 0x01 q fun u => (u.setRecord q.record { x with state := .filling }).answered q .ok 0)) ∧
    (x.state = .idle ∨ x.state = .filling ∨ x.state = .faulted → exec (.start dt q) s =
      .next (s.carried dt 2 0x02 q fun u =>
        ((u.setRecord q.record { x with state := .starting, misses := 0 }).linesSafe q.record).answered q .ok 0)) ∧
    (x.state = .running → exec (.pause dt q) s =
      .next (s.carried dt 2 0x03 q fun u => (u.setRecord q.record { x with state := .paused }).answered q .ok 0)) ∧
    (x.state = .paused → exec (.resume dt q) s =
      .next (s.carried dt 2 0x04 q fun u => (u.setRecord q.record { x with state := .running }).answered q .ok 0))

/-- R26, R49, R108: STOP flushes the queue without counting, sets the consecutive misses to 0, clears the last value, takes the
record's lines to SAFE and makes it IDLE. (On broadcast: log 6.) -/
def Obligations.StopFlushesTheRecord : Prop :=
  ∀ (s : State) (dt : Nat) (q : Request), s.allowedRecord q →
    let x := s.record q.record
    x.state ≠ .unused → x.state ≠ .idle → exec (.stop dt q) s = .next (s.carried dt 2 0x05 q fun u =>
      ((({ u with free := s.free + x.queue.length } : State).setRecord q.record
        { x with state := .idle, misses := 0, lastValue := none, queue := [] }).linesSafe q.record).answered q .ok 0)

/-- R27, R108: RELEASE in IDLE is refused IN_USE with the first naming slot, the active bank before a pending shadow; else the
record becomes UNUSED with its default values, its map entry DROP, and its lines lose their source and are DISABLED. (On
broadcast: log 6.) -/
def Obligations.ReleaseUnallocatesTheRecord : Prop :=
  ∀ (s : State) (dt : Nat) (q : Request), s.allowedRecord q →
    let r := q.record
    let x := s.record r
    let names : SlotEntry → Prop := fun e => e = .stream r
    let pending := ∃ target, s.banks.condition = .swapPending target
    x.state = .idle →
      (∀ k, s.banks.active.isFirst names k → exec (.release dt q) s =
        .next (s.carried dt 2 0x06 q fun u => u.answered q .inUse (BitVec.ofNat 16 k))) ∧
      (∀ k, s.banks.active.hasNone names → pending → s.banks.shadow.isFirst names k → exec (.release dt q) s =
        .next (s.carried dt 2 0x06 q fun u => u.answered q .inUse (BitVec.ofNat 16 k))) ∧
      (s.banks.active.hasNone names → (pending → s.banks.shadow.hasNone names) → exec (.release dt q) s =
        .next (s.carried dt 2 0x06 q fun u =>
          let t : State := match x.bound with
            | some id => { u with map := u.map.set id.toNat .drop id.isLt }
            | none => u
          ((t.setRecord r
            { state := .unused, bound := none,
              config := { delivery := .downstream, depthLimit := 4, overflow := .dropNew, missPolicy := .idleCell,
                          faultThreshold := 0, retag := 0 },
              misses := 0, lastValue := none, queue := [],
              counters := { released := 0, repeated := 0, missed := 0, early := 0, late := 0, refused := 0 } }).eachLine fun l =>
            if l.source = some r then { l with source := none, staged := none, state := .disabled } else l).answered q .ok 0))

/-- R28, R144: CLEAR_COUNTERS sets the six counters of a record in any state but UNUSED to 0, OK when one was not 0;
CLEAR_PORT_COUNTERS sets the fourteen port counters to 0, and is OK, since its own cell has been counted. (On broadcast: log
6.) -/
def Obligations.CountersAreCleared : Prop :=
  ∀ (s : State) (dt : Nat) (q : Request),
    let x := s.record q.record
    let zero : RecordCounters := { released := 0, repeated := 0, missed := 0, early := 0, late := 0, refused := 0 }
    (s.allowedRecord q → x.state ≠ .unused → exec (.clearCounters dt q) s = .next (s.carried dt 2 0x07 q fun u =>
      (u.setRecord q.record { x with counters := zero }).answered q (if x.counters ≠ zero then .ok else .noChange) 0)) ∧
    (s.allowedRecord q → x.state = .unused → exec (.clearCounters dt q) s = .next (s.carried dt 2 0x07 q fun u =>
      u.answered q .wrongState 0)) ∧
    (s.allowed q → exec (.clearPortCounters dt q) s = .next (s.carried dt 2 0x21 q fun u =>
      ({ u with ports :=
          { uGood := 0, uBad := 0, uUnknown := 0, uUnexpected := 0, uSyncIgnored := 0, uOutOfWindow := 0, uMapDrops := 0,
            uPassDrops := 0, uReplyDrops := 0, dGood := 0, dBad := 0, dUnknown := 0, dDiscarded := 0, dThroughDrops := 0 } } :
        State).answered q .ok 0))

/-- R22: the entries of the table that name no state. NO_CHANGE and WRONG_STATE change nothing, and WRONG_STATE carries the code
of the record's state. (On broadcast: log 6.) -/
def Obligations.RecordCommandsThatChangeNothing : Prop :=
  ∀ (s : State) (dt : Nat) (q : Request), s.allowedRecord q →
    let st := (s.record q.record).state
    let same (i : Instr) (code : Octet) := exec i s = .next (s.carried dt 2 code q fun u => u.answered q .noChange 0)
    let wrong (i : Instr) (code : Octet) :=
      exec i s = .next (s.carried dt 2 code q fun u => u.answered q .wrongState (st.code.setWidth 16))
    (st = .filling → same (.fill dt q) 0x01) ∧ (st ∈ [.unused, .starting, .running, .paused] → wrong (.fill dt q) 0x01) ∧
    (st ∈ [.starting, .running] → same (.start dt q) 0x02) ∧ (st ∈ [.unused, .paused] → wrong (.start dt q) 0x02) ∧
    (st = .paused → same (.pause dt q) 0x03) ∧
    (st ∈ [.unused, .idle, .filling, .starting, .faulted] → wrong (.pause dt q) 0x03) ∧
    (st = .running → same (.resume dt q) 0x04) ∧
    (st ∈ [.unused, .idle, .filling, .starting, .faulted] → wrong (.resume dt q) 0x04) ∧
    (st = .idle → same (.stop dt q) 0x05) ∧ (st = .unused → wrong (.stop dt q) 0x05) ∧
    (st = .unused → same (.release dt q) 0x06) ∧
    (st ∈ [.filling, .starting, .running, .paused, .faulted] → wrong (.release dt q) 0x06)

/-! ### Banks -/

/-- R62, R63: COPY makes the shadow COPYING with length 0 from its own tick; each of steps 1..63 writes its 16 entries; step 64
writes the last 16, sets the length, frees the condition and offers COPY_DONE. Where the plans keep their law (PlanLaw, which
every step keeps), the shadow is then the image of the active bank: its length and all 1024 entries. (On broadcast: log 6.) -/
def Obligations.CopyMakesTheImage : Prop :=
  ∀ (s : State),
    (∀ (dt : Nat) (q : Request), s.allowed q → s.banks.condition = .free → exec (.copy dt q) s =
      .next (s.carried dt 2 0x10 q fun u =>
        ({ u with banks := { s.banks with
            condition := .copying (s.now + dt) 0, shadow := { s.banks.shadow with length := 0 } } } : State).answered q .ok 0)) ∧
    ∀ takenAt done, s.pinHeld = false → s.banks.condition = .copying takenAt done →
      let copied (shadow : Bank) : Prop := ∀ k < 1024, shadow.entry k =
        if 16 * done ≤ k ∧ k < 16 * done + 16 then s.banks.active.entry k else s.banks.shadow.entry k
      (done < 63 → ∃ shadow : Bank,
        exec .copyStep s = .next { s with
          now := max s.now (takenAt + 512 * (done + 1))
          banks := { s.banks with condition := .copying takenAt (done + 1), shadow := shadow } } ∧
        shadow.length = s.banks.shadow.length ∧ copied shadow) ∧
      (done = 63 → ∃ shadow : Bank,
        exec .copyCompletion s = .next (({ s with
          now := max s.now (takenAt + 512 * 64)
          banks := { s.banks with condition := .free, shadow := shadow } } : State).offerEvent .copyDone none none) ∧
        shadow.length = s.banks.active.length ∧ copied shadow ∧ (PlanLaw s → shadow = s.banks.active))

/-- R65, R66: SWAP and SWAP_AT in FREE are refused INVALID_BANK by the first check that the shadow fails, else accepted with their
target; the detail is the number of the bank that will become ACTIVE. (On broadcast: log 6.) -/
def Obligations.SwapsAreValidated : Prop :=
  ∀ (s : State) (dt : Nat) (q : Request), s.allowed q → s.banks.condition = .free →
    let b := s.banks.shadow
    let valid := 8 ≤ b.length ∧ b.length ≤ 1024
    let fits := s.settings.source = .line → s.settings.latency + s.settings.window < b.length * 512
    let unused : SlotEntry → Prop := fun e => ∃ r, e = .stream r ∧ (s.record r).state = .unused
    let both (f : SwapTarget → State → State) :=
      exec (.swap dt q) s = .next (s.carried dt 2 0x11 q (f .nextBoundary)) ∧
      exec (.swapAt dt q) s = .next (s.carried dt 2 0x12 q (f (.cycle (dataWord q.data 0))))
    (¬valid ∨ ¬fits → both fun _ u => u.answered q .invalidBank 0) ∧
    (∀ k, valid → fits → b.isFirst unused k → both fun _ u => u.answered q .invalidBank (BitVec.ofNat 16 k)) ∧
    (valid → fits → b.hasNone unused → both fun target u =>
      ({ u with banks := { s.banks with condition := .swapPending target } } : State).answered q .ok
        (s.banks.activeNumber.other.code.setWidth 16))

/-- R58, R60, R61, R62, R65, R70, R71: while a copy is in flight, writes of the shadow, COPY, SWAP and SWAP_AT are refused BUSY,
and while a swap is pending BANK_LOCKED; SWAP_CANCEL frees a pending swap, and is refused NOT_PENDING without one. (On
broadcast: log 6.) -/
def Obligations.ShadowConditionGuardsTheShadow : Prop :=
  ∀ (s : State) (dt : Nat) (q : Request), s.allowed q →
    let pending := ∃ target, s.banks.condition = .swapPending target
    let copying := ∃ takenAt done, s.banks.condition = .copying takenAt done
    let refused (op : BitVec 4) (i : Instr) (code : Octet) (status : Status) :=
      exec i s = .next (s.carried dt op code q fun u => u.answered q status 0)
    let locked (status : Status) :=
      refused 2 (.copy dt q) 0x10 status ∧ refused 2 (.swap dt q) 0x11 status ∧ refused 2 (.swapAt dt q) 0x12 status ∧
      (q.dest ≠ 127#7 → q.first ≠ 0 → q.within .shadowSlot → refused 1 (.writeShadowSlot dt q) 0x9 status) ∧
      (q.dest ≠ 127#7 → q.first ≠ 0 → q.within .bankLength → refused 1 (.writeBankLength dt q) 0xA status)
    (copying → locked .busy) ∧ (pending → locked .bankLocked) ∧
    (pending → exec (.swapCancel dt q) s = .next (s.carried dt 2 0x13 q fun u =>
      ({ u with banks := { s.banks with condition := .free } } : State).answered q .ok 0)) ∧
    (¬pending → refused 2 (.swapCancel dt q) 0x13 .notPending)

/-! ### Lock restart and in-band resets -/

/-- R129, R128, R13: RESTART_LOCK restarts the lock in either mode; in LINE mode a running engine halts, and the timer is not
touched in either. (On broadcast: log 6; LOCK_STATE after LINK_CHANGE: log 24.) -/
def Obligations.RestartLockRestarts : Prop :=
  ∀ (s : State) (dt : Nat) (q : Request), s.allowed q →
    exec (.restartLock dt q) s = .next (s.carried dt 2 0x20 q fun u => u.relocks.answered q .ok 0)

/-- R172 with R38, R54, R75, R98, R111, R132, R147, R150, R157: RESET_SOFT, with the pool's law standing before it. -/
def Obligations.ResetSoftKeepsConfiguration : Prop :=
  ∀ (s : State) (dt : Nat) (q : Request), s.allowedAlone q → PoolLaw s →
    let banks : Banks := match s.banks.condition with
      | .copying _ _ => { s.banks with condition := .free, shadow := { s.banks.shadow with length := 0 } }
      | .swapPending _ => { s.banks with condition := .free }
      | .free => s.banks
    exec (.resetSoft dt q) s = .next (s.carried dt 2 0x30 q fun u =>
      ({ u with
          records := mapAll (fun x => if x.state = .unused then x else
            { x with queue := [], lastValue := none, misses := 0, state := .idle }) s.records
          free := 384 - s.inFlight
          passQueue := [], through := [], replies := [], events := [], lost := false, lastWinner := .own
          cache := Vector.replicate 4 none
          engine := .halted
          lines := mapAll Line.madeSafe s.lines
          banks := banks } : State).relocks.answered q .ok 0)

/-- R173, R12, R135, R157: RESET_FULL puts every block in its power-on state at its own tick, with the straps sampled, STARTED_UP
with FULL (1), and its reply queued and cached. -/
def Obligations.ResetFullRestarts : Prop :=
  ∀ (s : State) (dt : Nat) (q : Request) (straps : Address), s.allowedAlone q →
    exec (.resetFull dt q straps) s = .next (State.answered
      { State.reset with
        now := s.now + dt, straps := straps, nodeAddress := straps, timer := { State.reset.timer with start := s.now + dt },
        events := [{ kind := .startedUp, object := none, argument := some 1, firstCycle := 0, repeats := 1 }],
        pending := s.pending } q .ok 0)

/-! ### The edit lease -/

/-- R178, R179, R182: ACQUIRE and CLAIM of a FREE lease grant it; ACQUIRE from the holder is NO_CHANGE and from another manager
NOT_HOLDER; CLAIM from the holder is BAD_VALUE, and from another manager it is recorded, with the countdown shortened to the
grace, repeated as NO_CHANGE, or refused CLAIM_PENDING. That the arrival's LINK_CHANGE comes before LEASE_GRANTED and CLAIM_RAISED
is the model's choice (log 24). -/
def Obligations.AcquireAndClaim : Prop :=
  ∀ (s : State) (dt : Nat) (q : Request), s.taken q → q.dest ≠ 127#7 →
    let answers (i : Instr) (code : Octet) (status : Status) (detail : Word16) :=
      exec i s = .next (s.carried dt 3 code q fun u => u.answered q status detail)
    let grants (i : Instr) (code : Octet) :=
      exec i s = .next (s.carried dt 3 code q fun u => (u.granted q.manager).answered q .ok (s.lease.epoch + 1))
    (s.lease.state = .free → grants (.acquire dt q) 0 ∧ grants (.claim dt q) 3) ∧
    ∀ h, s.lease.state = .held → s.lease.holder = some h →
      (h = q.manager → answers (.acquire dt q) 0 .noChange 0 ∧ answers (.claim dt q) 3 .badValue 0) ∧
      (h ≠ q.manager → answers (.acquire dt q) 0 .notHolder (h.setWidth 16)) ∧
      (∀ n, h ≠ q.manager → s.lease.claimant = none → s.lease.countdown = some n → exec (.claim dt q) s =
        .next (s.carried dt 3 3 q fun u =>
          (({ u with lease :=
              if s.settings.claimGrace < n then
                { s.lease with claimant := some q.manager, countdown := some s.settings.claimGrace, base := s.now + dt }
              else { s.lease with claimant := some q.manager } } : State).offerEvent .claimRaised (some (q.manager.setWidth 8))
                (some (h.setWidth 16))).answered q .ok 0)) ∧
      (h ≠ q.manager → s.lease.claimant = some q.manager → answers (.claim dt q) 3 .noChange 0) ∧
      ∀ c, h ≠ q.manager → s.lease.claimant = some c → c ≠ q.manager → answers (.claim dt q) 3 .claimPending (c.setWidth 16)

/-- R177, R180, R181: RENEW and RELEASE from the holder with the current epoch restart the countdown and end the grant; from any
other manager they are NOT_HOLDER, and under another epoch STALE_EPOCH. That the arrival's LINK_CHANGE comes before LEASE_GRANTED is
the model's choice (log 24). -/
def Obligations.RenewAndRelease : Prop :=
  ∀ (s : State) (dt : Nat) (q : Request), s.taken q → q.dest ≠ 127#7 →
    let answers (status : Status) (detail : Word16) :=
      exec (.renew dt q) s = .next (s.carried dt 3 1 q fun u => u.answered q status detail) ∧
      exec (.leaseRelease dt q) s = .next (s.carried dt 3 2 q fun u => u.answered q status detail)
    (s.lease.state = .held → s.lease.holder = some q.manager → q.epoch = s.lease.epoch →
      exec (.renew dt q) s = .next (s.carried dt 3 1 q fun u =>
        ({ u with lease := { s.lease with countdown := some s.settings.leaseTimeout, base := s.now + dt } } : State).answered q .ok
          0) ∧
      exec (.leaseRelease dt q) s = .next (s.carried dt 3 2 q fun u => u.grantEnds.answered q .ok 0)) ∧
    (s.lease.state = .free → answers .notHolder 255) ∧
    (∀ h, s.lease.state = .held → s.lease.holder = some h → h ≠ q.manager → answers .notHolder (h.setWidth 16)) ∧
    (s.lease.state = .held → s.lease.holder = some q.manager → q.epoch ≠ s.lease.epoch → answers .staleEpoch s.lease.epoch)

/-- R176, R183: a unit step lowers a countdown above 1 and the next step is timed from its tick; at 1 the lease expires:
LEASE_EXPIRED with the holder, then the claimant's grant, or FREE. -/
def Obligations.UnitStepsAndExpiry : Prop :=
  ∀ (s : State) (h : Manager) (n : Nat), s.pinHeld = false → s.lease.state = .held → s.lease.holder = some h →
    s.lease.countdown = some n →
    let u : State := { s with now := max s.now (s.lease.base + 524288) }
    (1 < n → exec .leaseUnitStep s =
      .next { u with lease := { s.lease with countdown := some (n - 1), base := s.lease.base + 524288 } }) ∧
    (n = 1 → exec .leaseExpiry s = .next (u.offerEvent .leaseExpired (some (h.setWidth 8)) none).grantEnds)

/-! ### Slots, boundaries and U-out cell times -/

/-- R2, R3, R4, R5, R7, R30, R67, R68, R78, R80, R82, R83: the boundary that ends the guard. With a valid active bank and the lock
FREE, TRACKING or HOLDOVER the engine runs, STARTING records are promoted with STREAM_RUNNING for each, and slot 0 carries SYNC
with the new number; otherwise the engine is HALTED and slot 0 serves the Pass Queue. D-out then carries the cell chosen
(R145). The ascending order of the promoted records' events is the model's choice (log 15). -/
def Obligations.BoundaryBeginsTheCycle : Prop :=
  ∀ s : State, s.pinHeld = false → s.timer.position = .guard →
    let t := s.turns
    (t.mayStart → exec .cycleBoundary s =
      .next ((({ t with
          engine := .running
          records := mapAll (fun x => if x.state = .starting then { x with state := .running } else x) s.records } :
          State).offerEach .streamRunning
            (((List.range 256).map (BitVec.ofNat 8)).filter fun r => decide ((s.record r).state = .starting))).sends
        (syncCell t.timer.number) .engine)) ∧
    (¬t.mayStart → exec .cycleBoundary s = .next t.halts.serves) ∧
    ∀ v, exec .cycleBoundary s = .next v → ∃ f, v.dOut = some f ∧ v.dOutLine = .sends f.cell

/-- R2, R48, R80, R82, R84, R85, R106: the start of a slot ends the one before it; a halted slot and an OPEN slot serve the Pass
Queue, a QUIET slot sends IDLE, and the slot of a record that is neither RUNNING nor UNUSED follows its miss policy without
counting (FAULTED: the Pass Queue under YIELD, else IDLE). After every slot start D-out carries the cell chosen (R145). -/
def Obligations.SlotsWithoutJudgement : Prop :=
  ∀ (s : State) (k : Nat), s.pinHeld = false → s.timer.position = .slot k → s.timer.runs (k + 1) →
    let u := s.slotEnds.movesTo (s.timer.start + (k + 1) * 512) (.slot (k + 1))
    let e := s.banks.active.entry (k + 1)
    (s.engine = .halted → exec .slotStart s = .next u.serves) ∧
    (s.engine = .running → e = .openSlot → exec .slotStart s = .next u.serves) ∧
    (s.engine = .running → e = .quiet → exec .slotStart s = .next (u.sends idleCell .engine)) ∧
    (∀ r, s.engine = .running → e = .stream r →
      ((s.record r).state ∈ [.idle, .filling, .starting, .paused] → exec .slotStart s = .next (u.follows r false)) ∧
      ((s.record r).state = .faulted → exec .slotStart s =
        .next (if (s.record r).config.missPolicy = .yieldSlot then u.serves else u.sends idleCell .engine))) ∧
    ∀ t, exec .slotStart s = .next t → ∃ f, t.dOut = some f ∧ t.dOutLine = .sends f.cell

/-- R86 to R94, R31, R105: the slot of a RUNNING record purges stale heads, then releases a due head by its delivery, or is a miss
that follows the miss policy and faults the record at its threshold. D-out carries the released cell (R145). That a
released cell has zero spare header bits, also where its retag offset is 0, follows R145 (log 23). -/
def Obligations.JudgedSlots : Prop :=
  ∀ (s : State) (k : Nat) (r : RecordIndex), s.pinHeld = false → s.timer.position = .slot k → s.timer.runs (k + 1) →
    s.engine = .running → s.banks.active.entry (k + 1) = .stream r → (s.record r).state = .running →
    let u := s.slotEnds.movesTo (s.timer.start + (k + 1) * 512) (.slot (k + 1))
    let x := (s.purged (s.record r)).1
    let v : State := { u with free := u.free + (s.purged (s.record r)).2 }
    let y := x.missesSlot
    let w := (v.setRecord r y).follows r true
    (∀ c rest, x.queue = c :: rest → s.distance c = 0 →
      let t := v.setRecord r (x.releases c)
      let flight : Flight :=
        { cell := dataCell (streamOf c) (tagOf c + x.config.retag.setWidth 6) c.payload, source := .record r, buffered := true }
      let sent : State := { t with dOut := some flight }
      (x.config.delivery = .downstream → exec .slotStart s = .next sent ∧ sent.dOutLine = .sends flight.cell) ∧
      (x.config.delivery = .both → exec .slotStart s = .next (sent.stages r c.payload) ∧
        (sent.stages r c.payload).dOutLine = .sends flight.cell) ∧
      (x.config.delivery = .localOnly → exec .slotStart s =
        .next (({ t with free := v.free + 1 } : State).stages r c.payload).serves)) ∧
    ((∀ c ∈ x.queue.head?, s.distance c ≠ 0) →
      (x.config.faultThreshold = 0 ∨ y.misses ≠ x.config.faultThreshold → exec .slotStart s = .next w) ∧
      (x.config.faultThreshold ≠ 0 → y.misses = x.config.faultThreshold → exec .slotStart s = .next (w.faults r)))

/-- R2, R6, R9, R48, R102, R106, R145: the guard starts at the end of the last slot that runs: that slot ends, both outputs send
fill, and each line pin shows the value just applied, or what its line's state says where nothing was staged. -/
def Obligations.GuardEndsTheLastSlot : Prop :=
  ∀ (s : State) (k : Nat), s.pinHeld = false → s.timer.position = .slot k → ¬s.timer.runs (k + 1) → ∃ t,
    exec .guardStart s = .next t ∧
    t = { s.slotEnds.movesTo (s.timer.start + (k + 1) * 512) .guard with uOut := none } ∧
    t.dOutLine = .fill ∧ t.uOutLine = .fill ∧
    ∀ i : Fin 8, t.pinLevel i =
      match (s.lines[i.val]'(i.isLt)).staged with
      | some v => v
      | none => (s.lines[i.val]'(i.isLt)).shows

/-- R1, R149, R150, R131, R152, R154, R155: the U-out cell time of the slot in progress begins at that slot's start, once, and none
begins in the guard. The arbiter's choice for it: the cycle mark, else the candidate that did not win last, else the one
present, else IDLE; what is sent leaves its store, and U-out carries it (R145). That the slot's own start comes first on their
tick is the model's choice (log 17). -/
def Obligations.CellTimesCarryTheChosenCell : Prop :=
  ∀ s : State, s.pinHeld = false →
   (s.timer.position = .guard → exec .cellTimeStart s = .next s) ∧
   ∀ k, s.timer.position = .slot k →
    (k < s.uBegun → exec .cellTimeStart s = .next s) ∧
    (s.uBegun ≤ k →
      let u : State := { s with now := max s.now (s.timer.start + k * 512), uBegun := k + 1 }
      let mark := k = 0 ∧ s.settings.source = .loc ∧ s.settings.mark = true
      let evt := eventCell s.nodeAddress s.lost (s.events.take 4)
      (mark → exec .cellTimeStart s = .next { u with uOut := some (syncCell s.timer.number) }) ∧
      (¬mark → s.through = [] → s.replies = [] → s.events = [] → exec .cellTimeStart s = .next { u with uOut := some idleCell }) ∧
      (∀ c rest, ¬mark → s.through = c :: rest → (s.replies = [] ∧ s.events = []) ∨ s.lastWinner = .own →
        exec .cellTimeStart s = .next { u with uOut := some c, through := rest, lastWinner := .through }) ∧
      (∀ r rest, ¬mark → s.replies = r :: rest → s.through = [] ∨ s.lastWinner = .through → exec .cellTimeStart s =
        .next { u with uOut := some (replyCell s.nodeAddress r), replies := rest, lastWinner := .own }) ∧
      (¬mark → s.replies = [] → s.events ≠ [] → s.through = [] ∨ s.lastWinner = .through → exec .cellTimeStart s =
        .next { u with uOut := some evt, events := s.events.drop 4, lost := false, lastWinner := .own }) ∧
      ∀ t, exec .cellTimeStart s = .next t → ∃ c, t.uOut = some c ∧ t.uOutLine = .sends c)

/-! ### Laws that every step keeps -/

/-- Every law holds right after reset. -/
def Obligations.LawsHoldAtReset : Prop :=
  PoolLaw State.reset ∧ QueueLaw State.reset ∧ SettingsLaw State.reset ∧ LeaseLaw State.reset ∧ LineLaw State.reset ∧
  BindingLaw State.reset ∧ PlanLaw State.reset ∧ LockLaw State.reset ∧ EngineLaw State.reset ∧ TimerLaw State.reset

/-- R40. -/
def Obligations.EveryBufferIsAccountedFor : Prop :=
  ∀ s t : State, PoolLaw s → step s = .next t → PoolLaw t

/-- R147, R152, R153, R154. -/
def Obligations.QueuesKeepTheirSizes : Prop :=
  ∀ s t : State, QueueLaw s → step s = .next t → QueueLaw t

/-- R160, R175, R176: the Settings record keeps its ranges and the lease its law. -/
def Obligations.SettingsAndLeaseKeepTheirLaws : Prop :=
  ∀ s t : State, SettingsLaw s → step s = .next t → SettingsLaw t ∧ (LeaseLaw s → LeaseLaw t)

/-- R101, R106. -/
def Obligations.DrivenLinesHaveARunningSource : Prop :=
  ∀ s t : State, LineLaw s → step s = .next t → LineLaw t

/-- R18, R27. -/
def Obligations.MapAndRecordsAgree : Prop :=
  ∀ s t : State, BindingLaw s → step s = .next t → BindingLaw t

/-- R56, R62, R63, R65, R70, R72, R115. -/
def Obligations.PlansNameRecordsInUse : Prop :=
  ∀ s t : State, PlanLaw s → step s = .next t → PlanLaw t

/-- R78, R79, R113. -/
def Obligations.EngineRunsOnlyInLock : Prop :=
  ∀ s t : State, step s = .next t → (LockLaw s → LockLaw t) ∧ (EngineLaw s → EngineLaw t)

/-- R1, R2, R3, R5, R77. -/
def Obligations.CyclesKeepTheirShape : Prop :=
  ∀ s t : State, SettingsLaw s → TimerLaw s → step s = .next t → TimerLaw t
end

