-- ==== Sys2Proof/Laws/State.lean ====
section
/-! SUPPORT. What each named update of the state leaves unchanged, one lemma a field, and what the plain updates write. The
updates that choose between cases have one lemma that says which fields they can change at all (`_changes`). -/

namespace Sys2Proof.Machine

/-! ### `State.passTime` -/

@[simp] theorem State.passTime_pinHeld (s : State) (dt : Nat) : (s.passTime dt).pinHeld = s.pinHeld := rfl
@[simp] theorem State.passTime_straps (s : State) (dt : Nat) : (s.passTime dt).straps = s.straps := rfl
@[simp] theorem State.passTime_nodeAddress (s : State) (dt : Nat) : (s.passTime dt).nodeAddress = s.nodeAddress := rfl
@[simp] theorem State.passTime_timer (s : State) (dt : Nat) : (s.passTime dt).timer = s.timer := rfl
@[simp] theorem State.passTime_map (s : State) (dt : Nat) : (s.passTime dt).map = s.map := rfl
@[simp] theorem State.passTime_records (s : State) (dt : Nat) : (s.passTime dt).records = s.records := rfl
@[simp] theorem State.passTime_free (s : State) (dt : Nat) : (s.passTime dt).free = s.free := rfl
@[simp] theorem State.passTime_passQueue (s : State) (dt : Nat) : (s.passTime dt).passQueue = s.passQueue := rfl
@[simp] theorem State.passTime_banks (s : State) (dt : Nat) : (s.passTime dt).banks = s.banks := rfl
@[simp] theorem State.passTime_engine (s : State) (dt : Nat) : (s.passTime dt).engine = s.engine := rfl
@[simp] theorem State.passTime_dOut (s : State) (dt : Nat) : (s.passTime dt).dOut = s.dOut := rfl
@[simp] theorem State.passTime_lines (s : State) (dt : Nat) : (s.passTime dt).lines = s.lines := rfl
@[simp] theorem State.passTime_lock (s : State) (dt : Nat) : (s.passTime dt).lock = s.lock := rfl
@[simp] theorem State.passTime_uIn (s : State) (dt : Nat) : (s.passTime dt).uIn = s.uIn := rfl
@[simp] theorem State.passTime_dIn (s : State) (dt : Nat) : (s.passTime dt).dIn = s.dIn := rfl
@[simp] theorem State.passTime_ports (s : State) (dt : Nat) : (s.passTime dt).ports = s.ports := rfl
@[simp] theorem State.passTime_through (s : State) (dt : Nat) : (s.passTime dt).through = s.through := rfl
@[simp] theorem State.passTime_replies (s : State) (dt : Nat) : (s.passTime dt).replies = s.replies := rfl
@[simp] theorem State.passTime_events (s : State) (dt : Nat) : (s.passTime dt).events = s.events := rfl
@[simp] theorem State.passTime_lost (s : State) (dt : Nat) : (s.passTime dt).lost = s.lost := rfl
@[simp] theorem State.passTime_lastWinner (s : State) (dt : Nat) : (s.passTime dt).lastWinner = s.lastWinner := rfl
@[simp] theorem State.passTime_uOut (s : State) (dt : Nat) : (s.passTime dt).uOut = s.uOut := rfl
@[simp] theorem State.passTime_uBegun (s : State) (dt : Nat) : (s.passTime dt).uBegun = s.uBegun := rfl
@[simp] theorem State.passTime_cache (s : State) (dt : Nat) : (s.passTime dt).cache = s.cache := rfl
@[simp] theorem State.passTime_settings (s : State) (dt : Nat) : (s.passTime dt).settings = s.settings := rfl
@[simp] theorem State.passTime_lease (s : State) (dt : Nat) : (s.passTime dt).lease = s.lease := rfl
@[simp] theorem State.passTime_pending (s : State) (dt : Nat) : (s.passTime dt).pending = s.pending := rfl

/-! ### `State.reach` -/

@[simp] theorem State.reach_pinHeld (s : State) (t : Nat) : (s.reach t).pinHeld = s.pinHeld := rfl
@[simp] theorem State.reach_straps (s : State) (t : Nat) : (s.reach t).straps = s.straps := rfl
@[simp] theorem State.reach_nodeAddress (s : State) (t : Nat) : (s.reach t).nodeAddress = s.nodeAddress := rfl
@[simp] theorem State.reach_timer (s : State) (t : Nat) : (s.reach t).timer = s.timer := rfl
@[simp] theorem State.reach_map (s : State) (t : Nat) : (s.reach t).map = s.map := rfl
@[simp] theorem State.reach_records (s : State) (t : Nat) : (s.reach t).records = s.records := rfl
@[simp] theorem State.reach_free (s : State) (t : Nat) : (s.reach t).free = s.free := rfl
@[simp] theorem State.reach_passQueue (s : State) (t : Nat) : (s.reach t).passQueue = s.passQueue := rfl
@[simp] theorem State.reach_banks (s : State) (t : Nat) : (s.reach t).banks = s.banks := rfl
@[simp] theorem State.reach_engine (s : State) (t : Nat) : (s.reach t).engine = s.engine := rfl
@[simp] theorem State.reach_dOut (s : State) (t : Nat) : (s.reach t).dOut = s.dOut := rfl
@[simp] theorem State.reach_lines (s : State) (t : Nat) : (s.reach t).lines = s.lines := rfl
@[simp] theorem State.reach_lock (s : State) (t : Nat) : (s.reach t).lock = s.lock := rfl
@[simp] theorem State.reach_uIn (s : State) (t : Nat) : (s.reach t).uIn = s.uIn := rfl
@[simp] theorem State.reach_dIn (s : State) (t : Nat) : (s.reach t).dIn = s.dIn := rfl
@[simp] theorem State.reach_ports (s : State) (t : Nat) : (s.reach t).ports = s.ports := rfl
@[simp] theorem State.reach_through (s : State) (t : Nat) : (s.reach t).through = s.through := rfl
@[simp] theorem State.reach_replies (s : State) (t : Nat) : (s.reach t).replies = s.replies := rfl
@[simp] theorem State.reach_events (s : State) (t : Nat) : (s.reach t).events = s.events := rfl
@[simp] theorem State.reach_lost (s : State) (t : Nat) : (s.reach t).lost = s.lost := rfl
@[simp] theorem State.reach_lastWinner (s : State) (t : Nat) : (s.reach t).lastWinner = s.lastWinner := rfl
@[simp] theorem State.reach_uOut (s : State) (t : Nat) : (s.reach t).uOut = s.uOut := rfl
@[simp] theorem State.reach_uBegun (s : State) (t : Nat) : (s.reach t).uBegun = s.uBegun := rfl
@[simp] theorem State.reach_cache (s : State) (t : Nat) : (s.reach t).cache = s.cache := rfl
@[simp] theorem State.reach_settings (s : State) (t : Nat) : (s.reach t).settings = s.settings := rfl
@[simp] theorem State.reach_lease (s : State) (t : Nat) : (s.reach t).lease = s.lease := rfl
@[simp] theorem State.reach_pending (s : State) (t : Nat) : (s.reach t).pending = s.pending := rfl

/-! ### `State.setRecord` -/

@[simp] theorem State.setRecord_now (s : State) (r : RecordIndex) (x : Record) : (s.setRecord r x).now = s.now := rfl
@[simp] theorem State.setRecord_pinHeld (s : State) (r : RecordIndex) (x : Record) : (s.setRecord r x).pinHeld = s.pinHeld := rfl
@[simp] theorem State.setRecord_straps (s : State) (r : RecordIndex) (x : Record) : (s.setRecord r x).straps = s.straps := rfl
@[simp] theorem State.setRecord_nodeAddress (s : State) (r : RecordIndex) (x : Record) : (s.setRecord r x).nodeAddress = s.nodeAddress := rfl
@[simp] theorem State.setRecord_timer (s : State) (r : RecordIndex) (x : Record) : (s.setRecord r x).timer = s.timer := rfl
@[simp] theorem State.setRecord_map (s : State) (r : RecordIndex) (x : Record) : (s.setRecord r x).map = s.map := rfl
@[simp] theorem State.setRecord_free (s : State) (r : RecordIndex) (x : Record) : (s.setRecord r x).free = s.free := rfl
@[simp] theorem State.setRecord_passQueue (s : State) (r : RecordIndex) (x : Record) : (s.setRecord r x).passQueue = s.passQueue := rfl
@[simp] theorem State.setRecord_banks (s : State) (r : RecordIndex) (x : Record) : (s.setRecord r x).banks = s.banks := rfl
@[simp] theorem State.setRecord_engine (s : State) (r : RecordIndex) (x : Record) : (s.setRecord r x).engine = s.engine := rfl
@[simp] theorem State.setRecord_dOut (s : State) (r : RecordIndex) (x : Record) : (s.setRecord r x).dOut = s.dOut := rfl
@[simp] theorem State.setRecord_lines (s : State) (r : RecordIndex) (x : Record) : (s.setRecord r x).lines = s.lines := rfl
@[simp] theorem State.setRecord_lock (s : State) (r : RecordIndex) (x : Record) : (s.setRecord r x).lock = s.lock := rfl
@[simp] theorem State.setRecord_uIn (s : State) (r : RecordIndex) (x : Record) : (s.setRecord r x).uIn = s.uIn := rfl
@[simp] theorem State.setRecord_dIn (s : State) (r : RecordIndex) (x : Record) : (s.setRecord r x).dIn = s.dIn := rfl
@[simp] theorem State.setRecord_ports (s : State) (r : RecordIndex) (x : Record) : (s.setRecord r x).ports = s.ports := rfl
@[simp] theorem State.setRecord_through (s : State) (r : RecordIndex) (x : Record) : (s.setRecord r x).through = s.through := rfl
@[simp] theorem State.setRecord_replies (s : State) (r : RecordIndex) (x : Record) : (s.setRecord r x).replies = s.replies := rfl
@[simp] theorem State.setRecord_events (s : State) (r : RecordIndex) (x : Record) : (s.setRecord r x).events = s.events := rfl
@[simp] theorem State.setRecord_lost (s : State) (r : RecordIndex) (x : Record) : (s.setRecord r x).lost = s.lost := rfl
@[simp] theorem State.setRecord_lastWinner (s : State) (r : RecordIndex) (x : Record) : (s.setRecord r x).lastWinner = s.lastWinner := rfl
@[simp] theorem State.setRecord_uOut (s : State) (r : RecordIndex) (x : Record) : (s.setRecord r x).uOut = s.uOut := rfl
@[simp] theorem State.setRecord_uBegun (s : State) (r : RecordIndex) (x : Record) : (s.setRecord r x).uBegun = s.uBegun := rfl
@[simp] theorem State.setRecord_cache (s : State) (r : RecordIndex) (x : Record) : (s.setRecord r x).cache = s.cache := rfl
@[simp] theorem State.setRecord_settings (s : State) (r : RecordIndex) (x : Record) : (s.setRecord r x).settings = s.settings := rfl
@[simp] theorem State.setRecord_lease (s : State) (r : RecordIndex) (x : Record) : (s.setRecord r x).lease = s.lease := rfl
@[simp] theorem State.setRecord_pending (s : State) (r : RecordIndex) (x : Record) : (s.setRecord r x).pending = s.pending := rfl

/-! ### `State.setMapEntry` -/

@[simp] theorem State.setMapEntry_now (s : State) (id : StreamId) (e : MapEntry) : (s.setMapEntry id e).now = s.now := rfl
@[simp] theorem State.setMapEntry_pinHeld (s : State) (id : StreamId) (e : MapEntry) : (s.setMapEntry id e).pinHeld = s.pinHeld := rfl
@[simp] theorem State.setMapEntry_straps (s : State) (id : StreamId) (e : MapEntry) : (s.setMapEntry id e).straps = s.straps := rfl
@[simp] theorem State.setMapEntry_nodeAddress (s : State) (id : StreamId) (e : MapEntry) : (s.setMapEntry id e).nodeAddress = s.nodeAddress := rfl
@[simp] theorem State.setMapEntry_timer (s : State) (id : StreamId) (e : MapEntry) : (s.setMapEntry id e).timer = s.timer := rfl
@[simp] theorem State.setMapEntry_records (s : State) (id : StreamId) (e : MapEntry) : (s.setMapEntry id e).records = s.records := rfl
@[simp] theorem State.setMapEntry_free (s : State) (id : StreamId) (e : MapEntry) : (s.setMapEntry id e).free = s.free := rfl
@[simp] theorem State.setMapEntry_passQueue (s : State) (id : StreamId) (e : MapEntry) : (s.setMapEntry id e).passQueue = s.passQueue := rfl
@[simp] theorem State.setMapEntry_banks (s : State) (id : StreamId) (e : MapEntry) : (s.setMapEntry id e).banks = s.banks := rfl
@[simp] theorem State.setMapEntry_engine (s : State) (id : StreamId) (e : MapEntry) : (s.setMapEntry id e).engine = s.engine := rfl
@[simp] theorem State.setMapEntry_dOut (s : State) (id : StreamId) (e : MapEntry) : (s.setMapEntry id e).dOut = s.dOut := rfl
@[simp] theorem State.setMapEntry_lines (s : State) (id : StreamId) (e : MapEntry) : (s.setMapEntry id e).lines = s.lines := rfl
@[simp] theorem State.setMapEntry_lock (s : State) (id : StreamId) (e : MapEntry) : (s.setMapEntry id e).lock = s.lock := rfl
@[simp] theorem State.setMapEntry_uIn (s : State) (id : StreamId) (e : MapEntry) : (s.setMapEntry id e).uIn = s.uIn := rfl
@[simp] theorem State.setMapEntry_dIn (s : State) (id : StreamId) (e : MapEntry) : (s.setMapEntry id e).dIn = s.dIn := rfl
@[simp] theorem State.setMapEntry_ports (s : State) (id : StreamId) (e : MapEntry) : (s.setMapEntry id e).ports = s.ports := rfl
@[simp] theorem State.setMapEntry_through (s : State) (id : StreamId) (e : MapEntry) : (s.setMapEntry id e).through = s.through := rfl
@[simp] theorem State.setMapEntry_replies (s : State) (id : StreamId) (e : MapEntry) : (s.setMapEntry id e).replies = s.replies := rfl
@[simp] theorem State.setMapEntry_events (s : State) (id : StreamId) (e : MapEntry) : (s.setMapEntry id e).events = s.events := rfl
@[simp] theorem State.setMapEntry_lost (s : State) (id : StreamId) (e : MapEntry) : (s.setMapEntry id e).lost = s.lost := rfl
@[simp] theorem State.setMapEntry_lastWinner (s : State) (id : StreamId) (e : MapEntry) : (s.setMapEntry id e).lastWinner = s.lastWinner := rfl
@[simp] theorem State.setMapEntry_uOut (s : State) (id : StreamId) (e : MapEntry) : (s.setMapEntry id e).uOut = s.uOut := rfl
@[simp] theorem State.setMapEntry_uBegun (s : State) (id : StreamId) (e : MapEntry) : (s.setMapEntry id e).uBegun = s.uBegun := rfl
@[simp] theorem State.setMapEntry_cache (s : State) (id : StreamId) (e : MapEntry) : (s.setMapEntry id e).cache = s.cache := rfl
@[simp] theorem State.setMapEntry_settings (s : State) (id : StreamId) (e : MapEntry) : (s.setMapEntry id e).settings = s.settings := rfl
@[simp] theorem State.setMapEntry_lease (s : State) (id : StreamId) (e : MapEntry) : (s.setMapEntry id e).lease = s.lease := rfl
@[simp] theorem State.setMapEntry_pending (s : State) (id : StreamId) (e : MapEntry) : (s.setMapEntry id e).pending = s.pending := rfl

/-! ### `State.count` -/

@[simp] theorem State.count_now (s : State) (f : PortCounters → PortCounters) : (s.count f).now = s.now := rfl
@[simp] theorem State.count_pinHeld (s : State) (f : PortCounters → PortCounters) : (s.count f).pinHeld = s.pinHeld := rfl
@[simp] theorem State.count_straps (s : State) (f : PortCounters → PortCounters) : (s.count f).straps = s.straps := rfl
@[simp] theorem State.count_nodeAddress (s : State) (f : PortCounters → PortCounters) : (s.count f).nodeAddress = s.nodeAddress := rfl
@[simp] theorem State.count_timer (s : State) (f : PortCounters → PortCounters) : (s.count f).timer = s.timer := rfl
@[simp] theorem State.count_map (s : State) (f : PortCounters → PortCounters) : (s.count f).map = s.map := rfl
@[simp] theorem State.count_records (s : State) (f : PortCounters → PortCounters) : (s.count f).records = s.records := rfl
@[simp] theorem State.count_free (s : State) (f : PortCounters → PortCounters) : (s.count f).free = s.free := rfl
@[simp] theorem State.count_passQueue (s : State) (f : PortCounters → PortCounters) : (s.count f).passQueue = s.passQueue := rfl
@[simp] theorem State.count_banks (s : State) (f : PortCounters → PortCounters) : (s.count f).banks = s.banks := rfl
@[simp] theorem State.count_engine (s : State) (f : PortCounters → PortCounters) : (s.count f).engine = s.engine := rfl
@[simp] theorem State.count_dOut (s : State) (f : PortCounters → PortCounters) : (s.count f).dOut = s.dOut := rfl
@[simp] theorem State.count_lines (s : State) (f : PortCounters → PortCounters) : (s.count f).lines = s.lines := rfl
@[simp] theorem State.count_lock (s : State) (f : PortCounters → PortCounters) : (s.count f).lock = s.lock := rfl
@[simp] theorem State.count_uIn (s : State) (f : PortCounters → PortCounters) : (s.count f).uIn = s.uIn := rfl
@[simp] theorem State.count_dIn (s : State) (f : PortCounters → PortCounters) : (s.count f).dIn = s.dIn := rfl
@[simp] theorem State.count_through (s : State) (f : PortCounters → PortCounters) : (s.count f).through = s.through := rfl
@[simp] theorem State.count_replies (s : State) (f : PortCounters → PortCounters) : (s.count f).replies = s.replies := rfl
@[simp] theorem State.count_events (s : State) (f : PortCounters → PortCounters) : (s.count f).events = s.events := rfl
@[simp] theorem State.count_lost (s : State) (f : PortCounters → PortCounters) : (s.count f).lost = s.lost := rfl
@[simp] theorem State.count_lastWinner (s : State) (f : PortCounters → PortCounters) : (s.count f).lastWinner = s.lastWinner := rfl
@[simp] theorem State.count_uOut (s : State) (f : PortCounters → PortCounters) : (s.count f).uOut = s.uOut := rfl
@[simp] theorem State.count_uBegun (s : State) (f : PortCounters → PortCounters) : (s.count f).uBegun = s.uBegun := rfl
@[simp] theorem State.count_cache (s : State) (f : PortCounters → PortCounters) : (s.count f).cache = s.cache := rfl
@[simp] theorem State.count_settings (s : State) (f : PortCounters → PortCounters) : (s.count f).settings = s.settings := rfl
@[simp] theorem State.count_lease (s : State) (f : PortCounters → PortCounters) : (s.count f).lease = s.lease := rfl
@[simp] theorem State.count_pending (s : State) (f : PortCounters → PortCounters) : (s.count f).pending = s.pending := rfl

/-! ### `State.pushReply` -/

@[simp] theorem State.pushReply_now (s : State) (r : Reply) : (s.pushReply r).now = s.now := rfl
@[simp] theorem State.pushReply_pinHeld (s : State) (r : Reply) : (s.pushReply r).pinHeld = s.pinHeld := rfl
@[simp] theorem State.pushReply_straps (s : State) (r : Reply) : (s.pushReply r).straps = s.straps := rfl
@[simp] theorem State.pushReply_nodeAddress (s : State) (r : Reply) : (s.pushReply r).nodeAddress = s.nodeAddress := rfl
@[simp] theorem State.pushReply_timer (s : State) (r : Reply) : (s.pushReply r).timer = s.timer := rfl
@[simp] theorem State.pushReply_map (s : State) (r : Reply) : (s.pushReply r).map = s.map := rfl
@[simp] theorem State.pushReply_records (s : State) (r : Reply) : (s.pushReply r).records = s.records := rfl
@[simp] theorem State.pushReply_free (s : State) (r : Reply) : (s.pushReply r).free = s.free := rfl
@[simp] theorem State.pushReply_passQueue (s : State) (r : Reply) : (s.pushReply r).passQueue = s.passQueue := rfl
@[simp] theorem State.pushReply_banks (s : State) (r : Reply) : (s.pushReply r).banks = s.banks := rfl
@[simp] theorem State.pushReply_engine (s : State) (r : Reply) : (s.pushReply r).engine = s.engine := rfl
@[simp] theorem State.pushReply_dOut (s : State) (r : Reply) : (s.pushReply r).dOut = s.dOut := rfl
@[simp] theorem State.pushReply_lines (s : State) (r : Reply) : (s.pushReply r).lines = s.lines := rfl
@[simp] theorem State.pushReply_lock (s : State) (r : Reply) : (s.pushReply r).lock = s.lock := rfl
@[simp] theorem State.pushReply_uIn (s : State) (r : Reply) : (s.pushReply r).uIn = s.uIn := rfl
@[simp] theorem State.pushReply_dIn (s : State) (r : Reply) : (s.pushReply r).dIn = s.dIn := rfl
@[simp] theorem State.pushReply_ports (s : State) (r : Reply) : (s.pushReply r).ports = s.ports := rfl
@[simp] theorem State.pushReply_through (s : State) (r : Reply) : (s.pushReply r).through = s.through := rfl
@[simp] theorem State.pushReply_events (s : State) (r : Reply) : (s.pushReply r).events = s.events := rfl
@[simp] theorem State.pushReply_lost (s : State) (r : Reply) : (s.pushReply r).lost = s.lost := rfl
@[simp] theorem State.pushReply_lastWinner (s : State) (r : Reply) : (s.pushReply r).lastWinner = s.lastWinner := rfl
@[simp] theorem State.pushReply_uOut (s : State) (r : Reply) : (s.pushReply r).uOut = s.uOut := rfl
@[simp] theorem State.pushReply_uBegun (s : State) (r : Reply) : (s.pushReply r).uBegun = s.uBegun := rfl
@[simp] theorem State.pushReply_cache (s : State) (r : Reply) : (s.pushReply r).cache = s.cache := rfl
@[simp] theorem State.pushReply_settings (s : State) (r : Reply) : (s.pushReply r).settings = s.settings := rfl
@[simp] theorem State.pushReply_lease (s : State) (r : Reply) : (s.pushReply r).lease = s.lease := rfl
@[simp] theorem State.pushReply_pending (s : State) (r : Reply) : (s.pushReply r).pending = s.pending := rfl

/-! ### `State.cacheReply` -/

@[simp] theorem State.cacheReply_now (s : State) (r : Reply) : (s.cacheReply r).now = s.now := rfl
@[simp] theorem State.cacheReply_pinHeld (s : State) (r : Reply) : (s.cacheReply r).pinHeld = s.pinHeld := rfl
@[simp] theorem State.cacheReply_straps (s : State) (r : Reply) : (s.cacheReply r).straps = s.straps := rfl
@[simp] theorem State.cacheReply_nodeAddress (s : State) (r : Reply) : (s.cacheReply r).nodeAddress = s.nodeAddress := rfl
@[simp] theorem State.cacheReply_timer (s : State) (r : Reply) : (s.cacheReply r).timer = s.timer := rfl
@[simp] theorem State.cacheReply_map (s : State) (r : Reply) : (s.cacheReply r).map = s.map := rfl
@[simp] theorem State.cacheReply_records (s : State) (r : Reply) : (s.cacheReply r).records = s.records := rfl
@[simp] theorem State.cacheReply_free (s : State) (r : Reply) : (s.cacheReply r).free = s.free := rfl
@[simp] theorem State.cacheReply_passQueue (s : State) (r : Reply) : (s.cacheReply r).passQueue = s.passQueue := rfl
@[simp] theorem State.cacheReply_banks (s : State) (r : Reply) : (s.cacheReply r).banks = s.banks := rfl
@[simp] theorem State.cacheReply_engine (s : State) (r : Reply) : (s.cacheReply r).engine = s.engine := rfl
@[simp] theorem State.cacheReply_dOut (s : State) (r : Reply) : (s.cacheReply r).dOut = s.dOut := rfl
@[simp] theorem State.cacheReply_lines (s : State) (r : Reply) : (s.cacheReply r).lines = s.lines := rfl
@[simp] theorem State.cacheReply_lock (s : State) (r : Reply) : (s.cacheReply r).lock = s.lock := rfl
@[simp] theorem State.cacheReply_uIn (s : State) (r : Reply) : (s.cacheReply r).uIn = s.uIn := rfl
@[simp] theorem State.cacheReply_dIn (s : State) (r : Reply) : (s.cacheReply r).dIn = s.dIn := rfl
@[simp] theorem State.cacheReply_ports (s : State) (r : Reply) : (s.cacheReply r).ports = s.ports := rfl
@[simp] theorem State.cacheReply_through (s : State) (r : Reply) : (s.cacheReply r).through = s.through := rfl
@[simp] theorem State.cacheReply_replies (s : State) (r : Reply) : (s.cacheReply r).replies = s.replies := rfl
@[simp] theorem State.cacheReply_events (s : State) (r : Reply) : (s.cacheReply r).events = s.events := rfl
@[simp] theorem State.cacheReply_lost (s : State) (r : Reply) : (s.cacheReply r).lost = s.lost := rfl
@[simp] theorem State.cacheReply_lastWinner (s : State) (r : Reply) : (s.cacheReply r).lastWinner = s.lastWinner := rfl
@[simp] theorem State.cacheReply_uOut (s : State) (r : Reply) : (s.cacheReply r).uOut = s.uOut := rfl
@[simp] theorem State.cacheReply_uBegun (s : State) (r : Reply) : (s.cacheReply r).uBegun = s.uBegun := rfl
@[simp] theorem State.cacheReply_settings (s : State) (r : Reply) : (s.cacheReply r).settings = s.settings := rfl
@[simp] theorem State.cacheReply_lease (s : State) (r : Reply) : (s.cacheReply r).lease = s.lease := rfl
@[simp] theorem State.cacheReply_pending (s : State) (r : Reply) : (s.cacheReply r).pending = s.pending := rfl

/-! ### `State.eachLine` -/

@[simp] theorem State.eachLine_now (s : State) (f : Line → Line) : (s.eachLine f).now = s.now := rfl
@[simp] theorem State.eachLine_pinHeld (s : State) (f : Line → Line) : (s.eachLine f).pinHeld = s.pinHeld := rfl
@[simp] theorem State.eachLine_straps (s : State) (f : Line → Line) : (s.eachLine f).straps = s.straps := rfl
@[simp] theorem State.eachLine_nodeAddress (s : State) (f : Line → Line) : (s.eachLine f).nodeAddress = s.nodeAddress := rfl
@[simp] theorem State.eachLine_timer (s : State) (f : Line → Line) : (s.eachLine f).timer = s.timer := rfl
@[simp] theorem State.eachLine_map (s : State) (f : Line → Line) : (s.eachLine f).map = s.map := rfl
@[simp] theorem State.eachLine_records (s : State) (f : Line → Line) : (s.eachLine f).records = s.records := rfl
@[simp] theorem State.eachLine_free (s : State) (f : Line → Line) : (s.eachLine f).free = s.free := rfl
@[simp] theorem State.eachLine_passQueue (s : State) (f : Line → Line) : (s.eachLine f).passQueue = s.passQueue := rfl
@[simp] theorem State.eachLine_banks (s : State) (f : Line → Line) : (s.eachLine f).banks = s.banks := rfl
@[simp] theorem State.eachLine_engine (s : State) (f : Line → Line) : (s.eachLine f).engine = s.engine := rfl
@[simp] theorem State.eachLine_dOut (s : State) (f : Line → Line) : (s.eachLine f).dOut = s.dOut := rfl
@[simp] theorem State.eachLine_lock (s : State) (f : Line → Line) : (s.eachLine f).lock = s.lock := rfl
@[simp] theorem State.eachLine_uIn (s : State) (f : Line → Line) : (s.eachLine f).uIn = s.uIn := rfl
@[simp] theorem State.eachLine_dIn (s : State) (f : Line → Line) : (s.eachLine f).dIn = s.dIn := rfl
@[simp] theorem State.eachLine_ports (s : State) (f : Line → Line) : (s.eachLine f).ports = s.ports := rfl
@[simp] theorem State.eachLine_through (s : State) (f : Line → Line) : (s.eachLine f).through = s.through := rfl
@[simp] theorem State.eachLine_replies (s : State) (f : Line → Line) : (s.eachLine f).replies = s.replies := rfl
@[simp] theorem State.eachLine_events (s : State) (f : Line → Line) : (s.eachLine f).events = s.events := rfl
@[simp] theorem State.eachLine_lost (s : State) (f : Line → Line) : (s.eachLine f).lost = s.lost := rfl
@[simp] theorem State.eachLine_lastWinner (s : State) (f : Line → Line) : (s.eachLine f).lastWinner = s.lastWinner := rfl
@[simp] theorem State.eachLine_uOut (s : State) (f : Line → Line) : (s.eachLine f).uOut = s.uOut := rfl
@[simp] theorem State.eachLine_uBegun (s : State) (f : Line → Line) : (s.eachLine f).uBegun = s.uBegun := rfl
@[simp] theorem State.eachLine_cache (s : State) (f : Line → Line) : (s.eachLine f).cache = s.cache := rfl
@[simp] theorem State.eachLine_settings (s : State) (f : Line → Line) : (s.eachLine f).settings = s.settings := rfl
@[simp] theorem State.eachLine_lease (s : State) (f : Line → Line) : (s.eachLine f).lease = s.lease := rfl
@[simp] theorem State.eachLine_pending (s : State) (f : Line → Line) : (s.eachLine f).pending = s.pending := rfl

/-! ### `State.withBanks` -/

@[simp] theorem State.withBanks_now (s : State) (f : Banks → Banks) : (s.withBanks f).now = s.now := rfl
@[simp] theorem State.withBanks_pinHeld (s : State) (f : Banks → Banks) : (s.withBanks f).pinHeld = s.pinHeld := rfl
@[simp] theorem State.withBanks_straps (s : State) (f : Banks → Banks) : (s.withBanks f).straps = s.straps := rfl
@[simp] theorem State.withBanks_nodeAddress (s : State) (f : Banks → Banks) : (s.withBanks f).nodeAddress = s.nodeAddress := rfl
@[simp] theorem State.withBanks_timer (s : State) (f : Banks → Banks) : (s.withBanks f).timer = s.timer := rfl
@[simp] theorem State.withBanks_map (s : State) (f : Banks → Banks) : (s.withBanks f).map = s.map := rfl
@[simp] theorem State.withBanks_records (s : State) (f : Banks → Banks) : (s.withBanks f).records = s.records := rfl
@[simp] theorem State.withBanks_free (s : State) (f : Banks → Banks) : (s.withBanks f).free = s.free := rfl
@[simp] theorem State.withBanks_passQueue (s : State) (f : Banks → Banks) : (s.withBanks f).passQueue = s.passQueue := rfl
@[simp] theorem State.withBanks_engine (s : State) (f : Banks → Banks) : (s.withBanks f).engine = s.engine := rfl
@[simp] theorem State.withBanks_dOut (s : State) (f : Banks → Banks) : (s.withBanks f).dOut = s.dOut := rfl
@[simp] theorem State.withBanks_lines (s : State) (f : Banks → Banks) : (s.withBanks f).lines = s.lines := rfl
@[simp] theorem State.withBanks_lock (s : State) (f : Banks → Banks) : (s.withBanks f).lock = s.lock := rfl
@[simp] theorem State.withBanks_uIn (s : State) (f : Banks → Banks) : (s.withBanks f).uIn = s.uIn := rfl
@[simp] theorem State.withBanks_dIn (s : State) (f : Banks → Banks) : (s.withBanks f).dIn = s.dIn := rfl
@[simp] theorem State.withBanks_ports (s : State) (f : Banks → Banks) : (s.withBanks f).ports = s.ports := rfl
@[simp] theorem State.withBanks_through (s : State) (f : Banks → Banks) : (s.withBanks f).through = s.through := rfl
@[simp] theorem State.withBanks_replies (s : State) (f : Banks → Banks) : (s.withBanks f).replies = s.replies := rfl
@[simp] theorem State.withBanks_events (s : State) (f : Banks → Banks) : (s.withBanks f).events = s.events := rfl
@[simp] theorem State.withBanks_lost (s : State) (f : Banks → Banks) : (s.withBanks f).lost = s.lost := rfl
@[simp] theorem State.withBanks_lastWinner (s : State) (f : Banks → Banks) : (s.withBanks f).lastWinner = s.lastWinner := rfl
@[simp] theorem State.withBanks_uOut (s : State) (f : Banks → Banks) : (s.withBanks f).uOut = s.uOut := rfl
@[simp] theorem State.withBanks_uBegun (s : State) (f : Banks → Banks) : (s.withBanks f).uBegun = s.uBegun := rfl
@[simp] theorem State.withBanks_cache (s : State) (f : Banks → Banks) : (s.withBanks f).cache = s.cache := rfl
@[simp] theorem State.withBanks_settings (s : State) (f : Banks → Banks) : (s.withBanks f).settings = s.settings := rfl
@[simp] theorem State.withBanks_lease (s : State) (f : Banks → Banks) : (s.withBanks f).lease = s.lease := rfl
@[simp] theorem State.withBanks_pending (s : State) (f : Banks → Banks) : (s.withBanks f).pending = s.pending := rfl

/-! ### `State.setLease` -/

@[simp] theorem State.setLease_now (s : State) (l : Lease) : (s.setLease l).now = s.now := rfl
@[simp] theorem State.setLease_pinHeld (s : State) (l : Lease) : (s.setLease l).pinHeld = s.pinHeld := rfl
@[simp] theorem State.setLease_straps (s : State) (l : Lease) : (s.setLease l).straps = s.straps := rfl
@[simp] theorem State.setLease_nodeAddress (s : State) (l : Lease) : (s.setLease l).nodeAddress = s.nodeAddress := rfl
@[simp] theorem State.setLease_timer (s : State) (l : Lease) : (s.setLease l).timer = s.timer := rfl
@[simp] theorem State.setLease_map (s : State) (l : Lease) : (s.setLease l).map = s.map := rfl
@[simp] theorem State.setLease_records (s : State) (l : Lease) : (s.setLease l).records = s.records := rfl
@[simp] theorem State.setLease_free (s : State) (l : Lease) : (s.setLease l).free = s.free := rfl
@[simp] theorem State.setLease_passQueue (s : State) (l : Lease) : (s.setLease l).passQueue = s.passQueue := rfl
@[simp] theorem State.setLease_banks (s : State) (l : Lease) : (s.setLease l).banks = s.banks := rfl
@[simp] theorem State.setLease_engine (s : State) (l : Lease) : (s.setLease l).engine = s.engine := rfl
@[simp] theorem State.setLease_dOut (s : State) (l : Lease) : (s.setLease l).dOut = s.dOut := rfl
@[simp] theorem State.setLease_lines (s : State) (l : Lease) : (s.setLease l).lines = s.lines := rfl
@[simp] theorem State.setLease_lock (s : State) (l : Lease) : (s.setLease l).lock = s.lock := rfl
@[simp] theorem State.setLease_uIn (s : State) (l : Lease) : (s.setLease l).uIn = s.uIn := rfl
@[simp] theorem State.setLease_dIn (s : State) (l : Lease) : (s.setLease l).dIn = s.dIn := rfl
@[simp] theorem State.setLease_ports (s : State) (l : Lease) : (s.setLease l).ports = s.ports := rfl
@[simp] theorem State.setLease_through (s : State) (l : Lease) : (s.setLease l).through = s.through := rfl
@[simp] theorem State.setLease_replies (s : State) (l : Lease) : (s.setLease l).replies = s.replies := rfl
@[simp] theorem State.setLease_events (s : State) (l : Lease) : (s.setLease l).events = s.events := rfl
@[simp] theorem State.setLease_lost (s : State) (l : Lease) : (s.setLease l).lost = s.lost := rfl
@[simp] theorem State.setLease_lastWinner (s : State) (l : Lease) : (s.setLease l).lastWinner = s.lastWinner := rfl
@[simp] theorem State.setLease_uOut (s : State) (l : Lease) : (s.setLease l).uOut = s.uOut := rfl
@[simp] theorem State.setLease_uBegun (s : State) (l : Lease) : (s.setLease l).uBegun = s.uBegun := rfl
@[simp] theorem State.setLease_cache (s : State) (l : Lease) : (s.setLease l).cache = s.cache := rfl
@[simp] theorem State.setLease_settings (s : State) (l : Lease) : (s.setLease l).settings = s.settings := rfl
@[simp] theorem State.setLease_pending (s : State) (l : Lease) : (s.setLease l).pending = s.pending := rfl

/-! ### `State.setLine` -/

@[simp] theorem State.setLine_now (s : State) (i : BitVec 3) (l : Line) : (s.setLine i l).now = s.now := rfl
@[simp] theorem State.setLine_pinHeld (s : State) (i : BitVec 3) (l : Line) : (s.setLine i l).pinHeld = s.pinHeld := rfl
@[simp] theorem State.setLine_straps (s : State) (i : BitVec 3) (l : Line) : (s.setLine i l).straps = s.straps := rfl
@[simp] theorem State.setLine_nodeAddress (s : State) (i : BitVec 3) (l : Line) : (s.setLine i l).nodeAddress = s.nodeAddress := rfl
@[simp] theorem State.setLine_timer (s : State) (i : BitVec 3) (l : Line) : (s.setLine i l).timer = s.timer := rfl
@[simp] theorem State.setLine_map (s : State) (i : BitVec 3) (l : Line) : (s.setLine i l).map = s.map := rfl
@[simp] theorem State.setLine_records (s : State) (i : BitVec 3) (l : Line) : (s.setLine i l).records = s.records := rfl
@[simp] theorem State.setLine_free (s : State) (i : BitVec 3) (l : Line) : (s.setLine i l).free = s.free := rfl
@[simp] theorem State.setLine_passQueue (s : State) (i : BitVec 3) (l : Line) : (s.setLine i l).passQueue = s.passQueue := rfl
@[simp] theorem State.setLine_banks (s : State) (i : BitVec 3) (l : Line) : (s.setLine i l).banks = s.banks := rfl
@[simp] theorem State.setLine_engine (s : State) (i : BitVec 3) (l : Line) : (s.setLine i l).engine = s.engine := rfl
@[simp] theorem State.setLine_dOut (s : State) (i : BitVec 3) (l : Line) : (s.setLine i l).dOut = s.dOut := rfl
@[simp] theorem State.setLine_lock (s : State) (i : BitVec 3) (l : Line) : (s.setLine i l).lock = s.lock := rfl
@[simp] theorem State.setLine_uIn (s : State) (i : BitVec 3) (l : Line) : (s.setLine i l).uIn = s.uIn := rfl
@[simp] theorem State.setLine_dIn (s : State) (i : BitVec 3) (l : Line) : (s.setLine i l).dIn = s.dIn := rfl
@[simp] theorem State.setLine_ports (s : State) (i : BitVec 3) (l : Line) : (s.setLine i l).ports = s.ports := rfl
@[simp] theorem State.setLine_through (s : State) (i : BitVec 3) (l : Line) : (s.setLine i l).through = s.through := rfl
@[simp] theorem State.setLine_replies (s : State) (i : BitVec 3) (l : Line) : (s.setLine i l).replies = s.replies := rfl
@[simp] theorem State.setLine_events (s : State) (i : BitVec 3) (l : Line) : (s.setLine i l).events = s.events := rfl
@[simp] theorem State.setLine_lost (s : State) (i : BitVec 3) (l : Line) : (s.setLine i l).lost = s.lost := rfl
@[simp] theorem State.setLine_lastWinner (s : State) (i : BitVec 3) (l : Line) : (s.setLine i l).lastWinner = s.lastWinner := rfl
@[simp] theorem State.setLine_uOut (s : State) (i : BitVec 3) (l : Line) : (s.setLine i l).uOut = s.uOut := rfl
@[simp] theorem State.setLine_uBegun (s : State) (i : BitVec 3) (l : Line) : (s.setLine i l).uBegun = s.uBegun := rfl
@[simp] theorem State.setLine_cache (s : State) (i : BitVec 3) (l : Line) : (s.setLine i l).cache = s.cache := rfl
@[simp] theorem State.setLine_settings (s : State) (i : BitVec 3) (l : Line) : (s.setLine i l).settings = s.settings := rfl
@[simp] theorem State.setLine_lease (s : State) (i : BitVec 3) (l : Line) : (s.setLine i l).lease = s.lease := rfl
@[simp] theorem State.setLine_pending (s : State) (i : BitVec 3) (l : Line) : (s.setLine i l).pending = s.pending := rfl

/-! ### `State.atPosition` -/

@[simp] theorem State.atPosition_now (s : State) (p : Position) : (s.atPosition p).now = s.now := rfl
@[simp] theorem State.atPosition_pinHeld (s : State) (p : Position) : (s.atPosition p).pinHeld = s.pinHeld := rfl
@[simp] theorem State.atPosition_straps (s : State) (p : Position) : (s.atPosition p).straps = s.straps := rfl
@[simp] theorem State.atPosition_nodeAddress (s : State) (p : Position) : (s.atPosition p).nodeAddress = s.nodeAddress := rfl
@[simp] theorem State.atPosition_map (s : State) (p : Position) : (s.atPosition p).map = s.map := rfl
@[simp] theorem State.atPosition_records (s : State) (p : Position) : (s.atPosition p).records = s.records := rfl
@[simp] theorem State.atPosition_free (s : State) (p : Position) : (s.atPosition p).free = s.free := rfl
@[simp] theorem State.atPosition_passQueue (s : State) (p : Position) : (s.atPosition p).passQueue = s.passQueue := rfl
@[simp] theorem State.atPosition_banks (s : State) (p : Position) : (s.atPosition p).banks = s.banks := rfl
@[simp] theorem State.atPosition_engine (s : State) (p : Position) : (s.atPosition p).engine = s.engine := rfl
@[simp] theorem State.atPosition_dOut (s : State) (p : Position) : (s.atPosition p).dOut = s.dOut := rfl
@[simp] theorem State.atPosition_lines (s : State) (p : Position) : (s.atPosition p).lines = s.lines := rfl
@[simp] theorem State.atPosition_lock (s : State) (p : Position) : (s.atPosition p).lock = s.lock := rfl
@[simp] theorem State.atPosition_uIn (s : State) (p : Position) : (s.atPosition p).uIn = s.uIn := rfl
@[simp] theorem State.atPosition_dIn (s : State) (p : Position) : (s.atPosition p).dIn = s.dIn := rfl
@[simp] theorem State.atPosition_ports (s : State) (p : Position) : (s.atPosition p).ports = s.ports := rfl
@[simp] theorem State.atPosition_through (s : State) (p : Position) : (s.atPosition p).through = s.through := rfl
@[simp] theorem State.atPosition_replies (s : State) (p : Position) : (s.atPosition p).replies = s.replies := rfl
@[simp] theorem State.atPosition_events (s : State) (p : Position) : (s.atPosition p).events = s.events := rfl
@[simp] theorem State.atPosition_lost (s : State) (p : Position) : (s.atPosition p).lost = s.lost := rfl
@[simp] theorem State.atPosition_lastWinner (s : State) (p : Position) : (s.atPosition p).lastWinner = s.lastWinner := rfl
@[simp] theorem State.atPosition_uOut (s : State) (p : Position) : (s.atPosition p).uOut = s.uOut := rfl
@[simp] theorem State.atPosition_uBegun (s : State) (p : Position) : (s.atPosition p).uBegun = s.uBegun := rfl
@[simp] theorem State.atPosition_cache (s : State) (p : Position) : (s.atPosition p).cache = s.cache := rfl
@[simp] theorem State.atPosition_settings (s : State) (p : Position) : (s.atPosition p).settings = s.settings := rfl
@[simp] theorem State.atPosition_lease (s : State) (p : Position) : (s.atPosition p).lease = s.lease := rfl
@[simp] theorem State.atPosition_pending (s : State) (p : Position) : (s.atPosition p).pending = s.pending := rfl

/-! ### `State.sendUp` -/

@[simp] theorem State.sendUp_now (s : State) (c : Cell) : (s.sendUp c).now = s.now := rfl
@[simp] theorem State.sendUp_pinHeld (s : State) (c : Cell) : (s.sendUp c).pinHeld = s.pinHeld := rfl
@[simp] theorem State.sendUp_straps (s : State) (c : Cell) : (s.sendUp c).straps = s.straps := rfl
@[simp] theorem State.sendUp_nodeAddress (s : State) (c : Cell) : (s.sendUp c).nodeAddress = s.nodeAddress := rfl
@[simp] theorem State.sendUp_timer (s : State) (c : Cell) : (s.sendUp c).timer = s.timer := rfl
@[simp] theorem State.sendUp_map (s : State) (c : Cell) : (s.sendUp c).map = s.map := rfl
@[simp] theorem State.sendUp_records (s : State) (c : Cell) : (s.sendUp c).records = s.records := rfl
@[simp] theorem State.sendUp_free (s : State) (c : Cell) : (s.sendUp c).free = s.free := rfl
@[simp] theorem State.sendUp_passQueue (s : State) (c : Cell) : (s.sendUp c).passQueue = s.passQueue := rfl
@[simp] theorem State.sendUp_banks (s : State) (c : Cell) : (s.sendUp c).banks = s.banks := rfl
@[simp] theorem State.sendUp_engine (s : State) (c : Cell) : (s.sendUp c).engine = s.engine := rfl
@[simp] theorem State.sendUp_dOut (s : State) (c : Cell) : (s.sendUp c).dOut = s.dOut := rfl
@[simp] theorem State.sendUp_lines (s : State) (c : Cell) : (s.sendUp c).lines = s.lines := rfl
@[simp] theorem State.sendUp_lock (s : State) (c : Cell) : (s.sendUp c).lock = s.lock := rfl
@[simp] theorem State.sendUp_uIn (s : State) (c : Cell) : (s.sendUp c).uIn = s.uIn := rfl
@[simp] theorem State.sendUp_dIn (s : State) (c : Cell) : (s.sendUp c).dIn = s.dIn := rfl
@[simp] theorem State.sendUp_ports (s : State) (c : Cell) : (s.sendUp c).ports = s.ports := rfl
@[simp] theorem State.sendUp_through (s : State) (c : Cell) : (s.sendUp c).through = s.through := rfl
@[simp] theorem State.sendUp_replies (s : State) (c : Cell) : (s.sendUp c).replies = s.replies := rfl
@[simp] theorem State.sendUp_events (s : State) (c : Cell) : (s.sendUp c).events = s.events := rfl
@[simp] theorem State.sendUp_lost (s : State) (c : Cell) : (s.sendUp c).lost = s.lost := rfl
@[simp] theorem State.sendUp_lastWinner (s : State) (c : Cell) : (s.sendUp c).lastWinner = s.lastWinner := rfl
@[simp] theorem State.sendUp_uBegun (s : State) (c : Cell) : (s.sendUp c).uBegun = s.uBegun := rfl
@[simp] theorem State.sendUp_cache (s : State) (c : Cell) : (s.sendUp c).cache = s.cache := rfl
@[simp] theorem State.sendUp_settings (s : State) (c : Cell) : (s.sendUp c).settings = s.settings := rfl
@[simp] theorem State.sendUp_lease (s : State) (c : Cell) : (s.sendUp c).lease = s.lease := rfl
@[simp] theorem State.sendUp_pending (s : State) (c : Cell) : (s.sendUp c).pending = s.pending := rfl

/-! ### `State.sendBuilt` -/

@[simp] theorem State.sendBuilt_now (s : State) (c : Cell) (f : FlightSource) : (s.sendBuilt c f).now = s.now := rfl
@[simp] theorem State.sendBuilt_pinHeld (s : State) (c : Cell) (f : FlightSource) : (s.sendBuilt c f).pinHeld = s.pinHeld := rfl
@[simp] theorem State.sendBuilt_straps (s : State) (c : Cell) (f : FlightSource) : (s.sendBuilt c f).straps = s.straps := rfl
@[simp] theorem State.sendBuilt_nodeAddress (s : State) (c : Cell) (f : FlightSource) : (s.sendBuilt c f).nodeAddress = s.nodeAddress := rfl
@[simp] theorem State.sendBuilt_timer (s : State) (c : Cell) (f : FlightSource) : (s.sendBuilt c f).timer = s.timer := rfl
@[simp] theorem State.sendBuilt_map (s : State) (c : Cell) (f : FlightSource) : (s.sendBuilt c f).map = s.map := rfl
@[simp] theorem State.sendBuilt_records (s : State) (c : Cell) (f : FlightSource) : (s.sendBuilt c f).records = s.records := rfl
@[simp] theorem State.sendBuilt_free (s : State) (c : Cell) (f : FlightSource) : (s.sendBuilt c f).free = s.free := rfl
@[simp] theorem State.sendBuilt_passQueue (s : State) (c : Cell) (f : FlightSource) : (s.sendBuilt c f).passQueue = s.passQueue := rfl
@[simp] theorem State.sendBuilt_banks (s : State) (c : Cell) (f : FlightSource) : (s.sendBuilt c f).banks = s.banks := rfl
@[simp] theorem State.sendBuilt_engine (s : State) (c : Cell) (f : FlightSource) : (s.sendBuilt c f).engine = s.engine := rfl
@[simp] theorem State.sendBuilt_lines (s : State) (c : Cell) (f : FlightSource) : (s.sendBuilt c f).lines = s.lines := rfl
@[simp] theorem State.sendBuilt_lock (s : State) (c : Cell) (f : FlightSource) : (s.sendBuilt c f).lock = s.lock := rfl
@[simp] theorem State.sendBuilt_uIn (s : State) (c : Cell) (f : FlightSource) : (s.sendBuilt c f).uIn = s.uIn := rfl
@[simp] theorem State.sendBuilt_dIn (s : State) (c : Cell) (f : FlightSource) : (s.sendBuilt c f).dIn = s.dIn := rfl
@[simp] theorem State.sendBuilt_ports (s : State) (c : Cell) (f : FlightSource) : (s.sendBuilt c f).ports = s.ports := rfl
@[simp] theorem State.sendBuilt_through (s : State) (c : Cell) (f : FlightSource) : (s.sendBuilt c f).through = s.through := rfl
@[simp] theorem State.sendBuilt_replies (s : State) (c : Cell) (f : FlightSource) : (s.sendBuilt c f).replies = s.replies := rfl
@[simp] theorem State.sendBuilt_events (s : State) (c : Cell) (f : FlightSource) : (s.sendBuilt c f).events = s.events := rfl
@[simp] theorem State.sendBuilt_lost (s : State) (c : Cell) (f : FlightSource) : (s.sendBuilt c f).lost = s.lost := rfl
@[simp] theorem State.sendBuilt_lastWinner (s : State) (c : Cell) (f : FlightSource) : (s.sendBuilt c f).lastWinner = s.lastWinner := rfl
@[simp] theorem State.sendBuilt_uOut (s : State) (c : Cell) (f : FlightSource) : (s.sendBuilt c f).uOut = s.uOut := rfl
@[simp] theorem State.sendBuilt_uBegun (s : State) (c : Cell) (f : FlightSource) : (s.sendBuilt c f).uBegun = s.uBegun := rfl
@[simp] theorem State.sendBuilt_cache (s : State) (c : Cell) (f : FlightSource) : (s.sendBuilt c f).cache = s.cache := rfl
@[simp] theorem State.sendBuilt_settings (s : State) (c : Cell) (f : FlightSource) : (s.sendBuilt c f).settings = s.settings := rfl
@[simp] theorem State.sendBuilt_lease (s : State) (c : Cell) (f : FlightSource) : (s.sendBuilt c f).lease = s.lease := rfl
@[simp] theorem State.sendBuilt_pending (s : State) (c : Cell) (f : FlightSource) : (s.sendBuilt c f).pending = s.pending := rfl

/-! ### `State.offerEvent` -/

theorem State.offerEvent_changes (s : State) (k : EventKind) (o : Option (BitVec 8)) (a : Option Word16) :
    s.offerEvent k o a = { s with events := (s.offerEvent k o a).events, lost := (s.offerEvent k o a).lost } := by
  unfold State.offerEvent
  repeat' split
  all_goals rfl
@[simp] theorem State.offerEvent_now (s : State) (k : EventKind) (o : Option (BitVec 8)) (a : Option Word16) : (s.offerEvent k o a).now = s.now :=
  (congrArg State.now (s.offerEvent_changes k o a) :)
@[simp] theorem State.offerEvent_pinHeld (s : State) (k : EventKind) (o : Option (BitVec 8)) (a : Option Word16) : (s.offerEvent k o a).pinHeld = s.pinHeld :=
  (congrArg State.pinHeld (s.offerEvent_changes k o a) :)
@[simp] theorem State.offerEvent_straps (s : State) (k : EventKind) (o : Option (BitVec 8)) (a : Option Word16) : (s.offerEvent k o a).straps = s.straps :=
  (congrArg State.straps (s.offerEvent_changes k o a) :)
@[simp] theorem State.offerEvent_nodeAddress (s : State) (k : EventKind) (o : Option (BitVec 8)) (a : Option Word16) : (s.offerEvent k o a).nodeAddress = s.nodeAddress :=
  (congrArg State.nodeAddress (s.offerEvent_changes k o a) :)
@[simp] theorem State.offerEvent_timer (s : State) (k : EventKind) (o : Option (BitVec 8)) (a : Option Word16) : (s.offerEvent k o a).timer = s.timer :=
  (congrArg State.timer (s.offerEvent_changes k o a) :)
@[simp] theorem State.offerEvent_map (s : State) (k : EventKind) (o : Option (BitVec 8)) (a : Option Word16) : (s.offerEvent k o a).map = s.map :=
  (congrArg State.map (s.offerEvent_changes k o a) :)
@[simp] theorem State.offerEvent_records (s : State) (k : EventKind) (o : Option (BitVec 8)) (a : Option Word16) : (s.offerEvent k o a).records = s.records :=
  (congrArg State.records (s.offerEvent_changes k o a) :)
@[simp] theorem State.offerEvent_free (s : State) (k : EventKind) (o : Option (BitVec 8)) (a : Option Word16) : (s.offerEvent k o a).free = s.free :=
  (congrArg State.free (s.offerEvent_changes k o a) :)
@[simp] theorem State.offerEvent_passQueue (s : State) (k : EventKind) (o : Option (BitVec 8)) (a : Option Word16) : (s.offerEvent k o a).passQueue = s.passQueue :=
  (congrArg State.passQueue (s.offerEvent_changes k o a) :)
@[simp] theorem State.offerEvent_banks (s : State) (k : EventKind) (o : Option (BitVec 8)) (a : Option Word16) : (s.offerEvent k o a).banks = s.banks :=
  (congrArg State.banks (s.offerEvent_changes k o a) :)
@[simp] theorem State.offerEvent_engine (s : State) (k : EventKind) (o : Option (BitVec 8)) (a : Option Word16) : (s.offerEvent k o a).engine = s.engine :=
  (congrArg State.engine (s.offerEvent_changes k o a) :)
@[simp] theorem State.offerEvent_dOut (s : State) (k : EventKind) (o : Option (BitVec 8)) (a : Option Word16) : (s.offerEvent k o a).dOut = s.dOut :=
  (congrArg State.dOut (s.offerEvent_changes k o a) :)
@[simp] theorem State.offerEvent_lines (s : State) (k : EventKind) (o : Option (BitVec 8)) (a : Option Word16) : (s.offerEvent k o a).lines = s.lines :=
  (congrArg State.lines (s.offerEvent_changes k o a) :)
@[simp] theorem State.offerEvent_lock (s : State) (k : EventKind) (o : Option (BitVec 8)) (a : Option Word16) : (s.offerEvent k o a).lock = s.lock :=
  (congrArg State.lock (s.offerEvent_changes k o a) :)
@[simp] theorem State.offerEvent_uIn (s : State) (k : EventKind) (o : Option (BitVec 8)) (a : Option Word16) : (s.offerEvent k o a).uIn = s.uIn :=
  (congrArg State.uIn (s.offerEvent_changes k o a) :)
@[simp] theorem State.offerEvent_dIn (s : State) (k : EventKind) (o : Option (BitVec 8)) (a : Option Word16) : (s.offerEvent k o a).dIn = s.dIn :=
  (congrArg State.dIn (s.offerEvent_changes k o a) :)
@[simp] theorem State.offerEvent_ports (s : State) (k : EventKind) (o : Option (BitVec 8)) (a : Option Word16) : (s.offerEvent k o a).ports = s.ports :=
  (congrArg State.ports (s.offerEvent_changes k o a) :)
@[simp] theorem State.offerEvent_through (s : State) (k : EventKind) (o : Option (BitVec 8)) (a : Option Word16) : (s.offerEvent k o a).through = s.through :=
  (congrArg State.through (s.offerEvent_changes k o a) :)
@[simp] theorem State.offerEvent_replies (s : State) (k : EventKind) (o : Option (BitVec 8)) (a : Option Word16) : (s.offerEvent k o a).replies = s.replies :=
  (congrArg State.replies (s.offerEvent_changes k o a) :)
@[simp] theorem State.offerEvent_lastWinner (s : State) (k : EventKind) (o : Option (BitVec 8)) (a : Option Word16) : (s.offerEvent k o a).lastWinner = s.lastWinner :=
  (congrArg State.lastWinner (s.offerEvent_changes k o a) :)
@[simp] theorem State.offerEvent_uOut (s : State) (k : EventKind) (o : Option (BitVec 8)) (a : Option Word16) : (s.offerEvent k o a).uOut = s.uOut :=
  (congrArg State.uOut (s.offerEvent_changes k o a) :)
@[simp] theorem State.offerEvent_uBegun (s : State) (k : EventKind) (o : Option (BitVec 8)) (a : Option Word16) : (s.offerEvent k o a).uBegun = s.uBegun :=
  (congrArg State.uBegun (s.offerEvent_changes k o a) :)
@[simp] theorem State.offerEvent_cache (s : State) (k : EventKind) (o : Option (BitVec 8)) (a : Option Word16) : (s.offerEvent k o a).cache = s.cache :=
  (congrArg State.cache (s.offerEvent_changes k o a) :)
@[simp] theorem State.offerEvent_settings (s : State) (k : EventKind) (o : Option (BitVec 8)) (a : Option Word16) : (s.offerEvent k o a).settings = s.settings :=
  (congrArg State.settings (s.offerEvent_changes k o a) :)
@[simp] theorem State.offerEvent_lease (s : State) (k : EventKind) (o : Option (BitVec 8)) (a : Option Word16) : (s.offerEvent k o a).lease = s.lease :=
  (congrArg State.lease (s.offerEvent_changes k o a) :)
@[simp] theorem State.offerEvent_pending (s : State) (k : EventKind) (o : Option (BitVec 8)) (a : Option Word16) : (s.offerEvent k o a).pending = s.pending :=
  (congrArg State.pending (s.offerEvent_changes k o a) :)

/-! ### `State.offerEach` -/

theorem State.offerEach_changes (s : State) (k : EventKind) (os : List (BitVec 8)) :
    s.offerEach k os = { s with events := (s.offerEach k os).events, lost := (s.offerEach k os).lost } := by
  induction os generalizing s with
  | nil => rfl
  | cons o os ih =>
    rw [State.offerEach, ih, State.offerEvent_changes]
@[simp] theorem State.offerEach_now (s : State) (k : EventKind) (os : List (BitVec 8)) : (s.offerEach k os).now = s.now :=
  (congrArg State.now (s.offerEach_changes k os) :)
@[simp] theorem State.offerEach_pinHeld (s : State) (k : EventKind) (os : List (BitVec 8)) : (s.offerEach k os).pinHeld = s.pinHeld :=
  (congrArg State.pinHeld (s.offerEach_changes k os) :)
@[simp] theorem State.offerEach_straps (s : State) (k : EventKind) (os : List (BitVec 8)) : (s.offerEach k os).straps = s.straps :=
  (congrArg State.straps (s.offerEach_changes k os) :)
@[simp] theorem State.offerEach_nodeAddress (s : State) (k : EventKind) (os : List (BitVec 8)) : (s.offerEach k os).nodeAddress = s.nodeAddress :=
  (congrArg State.nodeAddress (s.offerEach_changes k os) :)
@[simp] theorem State.offerEach_timer (s : State) (k : EventKind) (os : List (BitVec 8)) : (s.offerEach k os).timer = s.timer :=
  (congrArg State.timer (s.offerEach_changes k os) :)
@[simp] theorem State.offerEach_map (s : State) (k : EventKind) (os : List (BitVec 8)) : (s.offerEach k os).map = s.map :=
  (congrArg State.map (s.offerEach_changes k os) :)
@[simp] theorem State.offerEach_records (s : State) (k : EventKind) (os : List (BitVec 8)) : (s.offerEach k os).records = s.records :=
  (congrArg State.records (s.offerEach_changes k os) :)
@[simp] theorem State.offerEach_free (s : State) (k : EventKind) (os : List (BitVec 8)) : (s.offerEach k os).free = s.free :=
  (congrArg State.free (s.offerEach_changes k os) :)
@[simp] theorem State.offerEach_passQueue (s : State) (k : EventKind) (os : List (BitVec 8)) : (s.offerEach k os).passQueue = s.passQueue :=
  (congrArg State.passQueue (s.offerEach_changes k os) :)
@[simp] theorem State.offerEach_banks (s : State) (k : EventKind) (os : List (BitVec 8)) : (s.offerEach k os).banks = s.banks :=
  (congrArg State.banks (s.offerEach_changes k os) :)
@[simp] theorem State.offerEach_engine (s : State) (k : EventKind) (os : List (BitVec 8)) : (s.offerEach k os).engine = s.engine :=
  (congrArg State.engine (s.offerEach_changes k os) :)
@[simp] theorem State.offerEach_dOut (s : State) (k : EventKind) (os : List (BitVec 8)) : (s.offerEach k os).dOut = s.dOut :=
  (congrArg State.dOut (s.offerEach_changes k os) :)
@[simp] theorem State.offerEach_lines (s : State) (k : EventKind) (os : List (BitVec 8)) : (s.offerEach k os).lines = s.lines :=
  (congrArg State.lines (s.offerEach_changes k os) :)
@[simp] theorem State.offerEach_lock (s : State) (k : EventKind) (os : List (BitVec 8)) : (s.offerEach k os).lock = s.lock :=
  (congrArg State.lock (s.offerEach_changes k os) :)
@[simp] theorem State.offerEach_uIn (s : State) (k : EventKind) (os : List (BitVec 8)) : (s.offerEach k os).uIn = s.uIn :=
  (congrArg State.uIn (s.offerEach_changes k os) :)
@[simp] theorem State.offerEach_dIn (s : State) (k : EventKind) (os : List (BitVec 8)) : (s.offerEach k os).dIn = s.dIn :=
  (congrArg State.dIn (s.offerEach_changes k os) :)
@[simp] theorem State.offerEach_ports (s : State) (k : EventKind) (os : List (BitVec 8)) : (s.offerEach k os).ports = s.ports :=
  (congrArg State.ports (s.offerEach_changes k os) :)
@[simp] theorem State.offerEach_through (s : State) (k : EventKind) (os : List (BitVec 8)) : (s.offerEach k os).through = s.through :=
  (congrArg State.through (s.offerEach_changes k os) :)
@[simp] theorem State.offerEach_replies (s : State) (k : EventKind) (os : List (BitVec 8)) : (s.offerEach k os).replies = s.replies :=
  (congrArg State.replies (s.offerEach_changes k os) :)
@[simp] theorem State.offerEach_lastWinner (s : State) (k : EventKind) (os : List (BitVec 8)) : (s.offerEach k os).lastWinner = s.lastWinner :=
  (congrArg State.lastWinner (s.offerEach_changes k os) :)
@[simp] theorem State.offerEach_uOut (s : State) (k : EventKind) (os : List (BitVec 8)) : (s.offerEach k os).uOut = s.uOut :=
  (congrArg State.uOut (s.offerEach_changes k os) :)
@[simp] theorem State.offerEach_uBegun (s : State) (k : EventKind) (os : List (BitVec 8)) : (s.offerEach k os).uBegun = s.uBegun :=
  (congrArg State.uBegun (s.offerEach_changes k os) :)
@[simp] theorem State.offerEach_cache (s : State) (k : EventKind) (os : List (BitVec 8)) : (s.offerEach k os).cache = s.cache :=
  (congrArg State.cache (s.offerEach_changes k os) :)
@[simp] theorem State.offerEach_settings (s : State) (k : EventKind) (os : List (BitVec 8)) : (s.offerEach k os).settings = s.settings :=
  (congrArg State.settings (s.offerEach_changes k os) :)
@[simp] theorem State.offerEach_lease (s : State) (k : EventKind) (os : List (BitVec 8)) : (s.offerEach k os).lease = s.lease :=
  (congrArg State.lease (s.offerEach_changes k os) :)
@[simp] theorem State.offerEach_pending (s : State) (k : EventKind) (os : List (BitVec 8)) : (s.offerEach k os).pending = s.pending :=
  (congrArg State.pending (s.offerEach_changes k os) :)

/-! ### `State.setLink` -/

theorem State.setLink_changes (s : State) (side : Side) (l : Link) :
    s.setLink side l = { s with uIn := (s.setLink side l).uIn, dIn := (s.setLink side l).dIn } := by
  cases side <;> rfl
@[simp] theorem State.setLink_now (s : State) (side : Side) (l : Link) : (s.setLink side l).now = s.now :=
  (congrArg State.now (s.setLink_changes side l) :)
@[simp] theorem State.setLink_pinHeld (s : State) (side : Side) (l : Link) : (s.setLink side l).pinHeld = s.pinHeld :=
  (congrArg State.pinHeld (s.setLink_changes side l) :)
@[simp] theorem State.setLink_straps (s : State) (side : Side) (l : Link) : (s.setLink side l).straps = s.straps :=
  (congrArg State.straps (s.setLink_changes side l) :)
@[simp] theorem State.setLink_nodeAddress (s : State) (side : Side) (l : Link) : (s.setLink side l).nodeAddress = s.nodeAddress :=
  (congrArg State.nodeAddress (s.setLink_changes side l) :)
@[simp] theorem State.setLink_timer (s : State) (side : Side) (l : Link) : (s.setLink side l).timer = s.timer :=
  (congrArg State.timer (s.setLink_changes side l) :)
@[simp] theorem State.setLink_map (s : State) (side : Side) (l : Link) : (s.setLink side l).map = s.map :=
  (congrArg State.map (s.setLink_changes side l) :)
@[simp] theorem State.setLink_records (s : State) (side : Side) (l : Link) : (s.setLink side l).records = s.records :=
  (congrArg State.records (s.setLink_changes side l) :)
@[simp] theorem State.setLink_free (s : State) (side : Side) (l : Link) : (s.setLink side l).free = s.free :=
  (congrArg State.free (s.setLink_changes side l) :)
@[simp] theorem State.setLink_passQueue (s : State) (side : Side) (l : Link) : (s.setLink side l).passQueue = s.passQueue :=
  (congrArg State.passQueue (s.setLink_changes side l) :)
@[simp] theorem State.setLink_banks (s : State) (side : Side) (l : Link) : (s.setLink side l).banks = s.banks :=
  (congrArg State.banks (s.setLink_changes side l) :)
@[simp] theorem State.setLink_engine (s : State) (side : Side) (l : Link) : (s.setLink side l).engine = s.engine :=
  (congrArg State.engine (s.setLink_changes side l) :)
@[simp] theorem State.setLink_dOut (s : State) (side : Side) (l : Link) : (s.setLink side l).dOut = s.dOut :=
  (congrArg State.dOut (s.setLink_changes side l) :)
@[simp] theorem State.setLink_lines (s : State) (side : Side) (l : Link) : (s.setLink side l).lines = s.lines :=
  (congrArg State.lines (s.setLink_changes side l) :)
@[simp] theorem State.setLink_lock (s : State) (side : Side) (l : Link) : (s.setLink side l).lock = s.lock :=
  (congrArg State.lock (s.setLink_changes side l) :)
@[simp] theorem State.setLink_ports (s : State) (side : Side) (l : Link) : (s.setLink side l).ports = s.ports :=
  (congrArg State.ports (s.setLink_changes side l) :)
@[simp] theorem State.setLink_through (s : State) (side : Side) (l : Link) : (s.setLink side l).through = s.through :=
  (congrArg State.through (s.setLink_changes side l) :)
@[simp] theorem State.setLink_replies (s : State) (side : Side) (l : Link) : (s.setLink side l).replies = s.replies :=
  (congrArg State.replies (s.setLink_changes side l) :)
@[simp] theorem State.setLink_events (s : State) (side : Side) (l : Link) : (s.setLink side l).events = s.events :=
  (congrArg State.events (s.setLink_changes side l) :)
@[simp] theorem State.setLink_lost (s : State) (side : Side) (l : Link) : (s.setLink side l).lost = s.lost :=
  (congrArg State.lost (s.setLink_changes side l) :)
@[simp] theorem State.setLink_lastWinner (s : State) (side : Side) (l : Link) : (s.setLink side l).lastWinner = s.lastWinner :=
  (congrArg State.lastWinner (s.setLink_changes side l) :)
@[simp] theorem State.setLink_uOut (s : State) (side : Side) (l : Link) : (s.setLink side l).uOut = s.uOut :=
  (congrArg State.uOut (s.setLink_changes side l) :)
@[simp] theorem State.setLink_uBegun (s : State) (side : Side) (l : Link) : (s.setLink side l).uBegun = s.uBegun :=
  (congrArg State.uBegun (s.setLink_changes side l) :)
@[simp] theorem State.setLink_cache (s : State) (side : Side) (l : Link) : (s.setLink side l).cache = s.cache :=
  (congrArg State.cache (s.setLink_changes side l) :)
@[simp] theorem State.setLink_settings (s : State) (side : Side) (l : Link) : (s.setLink side l).settings = s.settings :=
  (congrArg State.settings (s.setLink_changes side l) :)
@[simp] theorem State.setLink_lease (s : State) (side : Side) (l : Link) : (s.setLink side l).lease = s.lease :=
  (congrArg State.lease (s.setLink_changes side l) :)
@[simp] theorem State.setLink_pending (s : State) (side : Side) (l : Link) : (s.setLink side l).pending = s.pending :=
  (congrArg State.pending (s.setLink_changes side l) :)

/-! ### `State.haltEngine` -/

theorem State.haltEngine_changes (s : State) :
    s.haltEngine = { s with engine := (s.haltEngine).engine, lines := (s.haltEngine).lines } := by
  unfold State.haltEngine
  split <;> rfl
@[simp] theorem State.haltEngine_now (s : State) : (s.haltEngine).now = s.now :=
  (congrArg State.now (s.haltEngine_changes) :)
@[simp] theorem State.haltEngine_pinHeld (s : State) : (s.haltEngine).pinHeld = s.pinHeld :=
  (congrArg State.pinHeld (s.haltEngine_changes) :)
@[simp] theorem State.haltEngine_straps (s : State) : (s.haltEngine).straps = s.straps :=
  (congrArg State.straps (s.haltEngine_changes) :)
@[simp] theorem State.haltEngine_nodeAddress (s : State) : (s.haltEngine).nodeAddress = s.nodeAddress :=
  (congrArg State.nodeAddress (s.haltEngine_changes) :)
@[simp] theorem State.haltEngine_timer (s : State) : (s.haltEngine).timer = s.timer :=
  (congrArg State.timer (s.haltEngine_changes) :)
@[simp] theorem State.haltEngine_map (s : State) : (s.haltEngine).map = s.map :=
  (congrArg State.map (s.haltEngine_changes) :)
@[simp] theorem State.haltEngine_records (s : State) : (s.haltEngine).records = s.records :=
  (congrArg State.records (s.haltEngine_changes) :)
@[simp] theorem State.haltEngine_free (s : State) : (s.haltEngine).free = s.free :=
  (congrArg State.free (s.haltEngine_changes) :)
@[simp] theorem State.haltEngine_passQueue (s : State) : (s.haltEngine).passQueue = s.passQueue :=
  (congrArg State.passQueue (s.haltEngine_changes) :)
@[simp] theorem State.haltEngine_banks (s : State) : (s.haltEngine).banks = s.banks :=
  (congrArg State.banks (s.haltEngine_changes) :)
@[simp] theorem State.haltEngine_dOut (s : State) : (s.haltEngine).dOut = s.dOut :=
  (congrArg State.dOut (s.haltEngine_changes) :)
@[simp] theorem State.haltEngine_lock (s : State) : (s.haltEngine).lock = s.lock :=
  (congrArg State.lock (s.haltEngine_changes) :)
@[simp] theorem State.haltEngine_uIn (s : State) : (s.haltEngine).uIn = s.uIn :=
  (congrArg State.uIn (s.haltEngine_changes) :)
@[simp] theorem State.haltEngine_dIn (s : State) : (s.haltEngine).dIn = s.dIn :=
  (congrArg State.dIn (s.haltEngine_changes) :)
@[simp] theorem State.haltEngine_ports (s : State) : (s.haltEngine).ports = s.ports :=
  (congrArg State.ports (s.haltEngine_changes) :)
@[simp] theorem State.haltEngine_through (s : State) : (s.haltEngine).through = s.through :=
  (congrArg State.through (s.haltEngine_changes) :)
@[simp] theorem State.haltEngine_replies (s : State) : (s.haltEngine).replies = s.replies :=
  (congrArg State.replies (s.haltEngine_changes) :)
@[simp] theorem State.haltEngine_events (s : State) : (s.haltEngine).events = s.events :=
  (congrArg State.events (s.haltEngine_changes) :)
@[simp] theorem State.haltEngine_lost (s : State) : (s.haltEngine).lost = s.lost :=
  (congrArg State.lost (s.haltEngine_changes) :)
@[simp] theorem State.haltEngine_lastWinner (s : State) : (s.haltEngine).lastWinner = s.lastWinner :=
  (congrArg State.lastWinner (s.haltEngine_changes) :)
@[simp] theorem State.haltEngine_uOut (s : State) : (s.haltEngine).uOut = s.uOut :=
  (congrArg State.uOut (s.haltEngine_changes) :)
@[simp] theorem State.haltEngine_uBegun (s : State) : (s.haltEngine).uBegun = s.uBegun :=
  (congrArg State.uBegun (s.haltEngine_changes) :)
@[simp] theorem State.haltEngine_cache (s : State) : (s.haltEngine).cache = s.cache :=
  (congrArg State.cache (s.haltEngine_changes) :)
@[simp] theorem State.haltEngine_settings (s : State) : (s.haltEngine).settings = s.settings :=
  (congrArg State.settings (s.haltEngine_changes) :)
@[simp] theorem State.haltEngine_lease (s : State) : (s.haltEngine).lease = s.lease :=
  (congrArg State.lease (s.haltEngine_changes) :)
@[simp] theorem State.haltEngine_pending (s : State) : (s.haltEngine).pending = s.pending :=
  (congrArg State.pending (s.haltEngine_changes) :)

/-! ### `State.endFlight` -/

theorem State.endFlight_changes (s : State) :
    s.endFlight = { s with free := (s.endFlight).free, dOut := (s.endFlight).dOut } := by
  unfold State.endFlight
  split <;> rfl
@[simp] theorem State.endFlight_now (s : State) : (s.endFlight).now = s.now :=
  (congrArg State.now (s.endFlight_changes) :)
@[simp] theorem State.endFlight_pinHeld (s : State) : (s.endFlight).pinHeld = s.pinHeld :=
  (congrArg State.pinHeld (s.endFlight_changes) :)
@[simp] theorem State.endFlight_straps (s : State) : (s.endFlight).straps = s.straps :=
  (congrArg State.straps (s.endFlight_changes) :)
@[simp] theorem State.endFlight_nodeAddress (s : State) : (s.endFlight).nodeAddress = s.nodeAddress :=
  (congrArg State.nodeAddress (s.endFlight_changes) :)
@[simp] theorem State.endFlight_timer (s : State) : (s.endFlight).timer = s.timer :=
  (congrArg State.timer (s.endFlight_changes) :)
@[simp] theorem State.endFlight_map (s : State) : (s.endFlight).map = s.map :=
  (congrArg State.map (s.endFlight_changes) :)
@[simp] theorem State.endFlight_records (s : State) : (s.endFlight).records = s.records :=
  (congrArg State.records (s.endFlight_changes) :)
@[simp] theorem State.endFlight_passQueue (s : State) : (s.endFlight).passQueue = s.passQueue :=
  (congrArg State.passQueue (s.endFlight_changes) :)
@[simp] theorem State.endFlight_banks (s : State) : (s.endFlight).banks = s.banks :=
  (congrArg State.banks (s.endFlight_changes) :)
@[simp] theorem State.endFlight_engine (s : State) : (s.endFlight).engine = s.engine :=
  (congrArg State.engine (s.endFlight_changes) :)
@[simp] theorem State.endFlight_lines (s : State) : (s.endFlight).lines = s.lines :=
  (congrArg State.lines (s.endFlight_changes) :)
@[simp] theorem State.endFlight_lock (s : State) : (s.endFlight).lock = s.lock :=
  (congrArg State.lock (s.endFlight_changes) :)
@[simp] theorem State.endFlight_uIn (s : State) : (s.endFlight).uIn = s.uIn :=
  (congrArg State.uIn (s.endFlight_changes) :)
@[simp] theorem State.endFlight_dIn (s : State) : (s.endFlight).dIn = s.dIn :=
  (congrArg State.dIn (s.endFlight_changes) :)
@[simp] theorem State.endFlight_ports (s : State) : (s.endFlight).ports = s.ports :=
  (congrArg State.ports (s.endFlight_changes) :)
@[simp] theorem State.endFlight_through (s : State) : (s.endFlight).through = s.through :=
  (congrArg State.through (s.endFlight_changes) :)
@[simp] theorem State.endFlight_replies (s : State) : (s.endFlight).replies = s.replies :=
  (congrArg State.replies (s.endFlight_changes) :)
@[simp] theorem State.endFlight_events (s : State) : (s.endFlight).events = s.events :=
  (congrArg State.events (s.endFlight_changes) :)
@[simp] theorem State.endFlight_lost (s : State) : (s.endFlight).lost = s.lost :=
  (congrArg State.lost (s.endFlight_changes) :)
@[simp] theorem State.endFlight_lastWinner (s : State) : (s.endFlight).lastWinner = s.lastWinner :=
  (congrArg State.lastWinner (s.endFlight_changes) :)
@[simp] theorem State.endFlight_uOut (s : State) : (s.endFlight).uOut = s.uOut :=
  (congrArg State.uOut (s.endFlight_changes) :)
@[simp] theorem State.endFlight_uBegun (s : State) : (s.endFlight).uBegun = s.uBegun :=
  (congrArg State.uBegun (s.endFlight_changes) :)
@[simp] theorem State.endFlight_cache (s : State) : (s.endFlight).cache = s.cache :=
  (congrArg State.cache (s.endFlight_changes) :)
@[simp] theorem State.endFlight_settings (s : State) : (s.endFlight).settings = s.settings :=
  (congrArg State.settings (s.endFlight_changes) :)
@[simp] theorem State.endFlight_lease (s : State) : (s.endFlight).lease = s.lease :=
  (congrArg State.lease (s.endFlight_changes) :)
@[simp] theorem State.endFlight_pending (s : State) : (s.endFlight).pending = s.pending :=
  (congrArg State.pending (s.endFlight_changes) :)

/-! ### `State.servePass` -/

theorem State.servePass_changes (s : State) :
    s.servePass = { s with passQueue := (s.servePass).passQueue, dOut := (s.servePass).dOut } := by
  unfold State.servePass
  split <;> rfl
@[simp] theorem State.servePass_now (s : State) : (s.servePass).now = s.now :=
  (congrArg State.now (s.servePass_changes) :)
@[simp] theorem State.servePass_pinHeld (s : State) : (s.servePass).pinHeld = s.pinHeld :=
  (congrArg State.pinHeld (s.servePass_changes) :)
@[simp] theorem State.servePass_straps (s : State) : (s.servePass).straps = s.straps :=
  (congrArg State.straps (s.servePass_changes) :)
@[simp] theorem State.servePass_nodeAddress (s : State) : (s.servePass).nodeAddress = s.nodeAddress :=
  (congrArg State.nodeAddress (s.servePass_changes) :)
@[simp] theorem State.servePass_timer (s : State) : (s.servePass).timer = s.timer :=
  (congrArg State.timer (s.servePass_changes) :)
@[simp] theorem State.servePass_map (s : State) : (s.servePass).map = s.map :=
  (congrArg State.map (s.servePass_changes) :)
@[simp] theorem State.servePass_records (s : State) : (s.servePass).records = s.records :=
  (congrArg State.records (s.servePass_changes) :)
@[simp] theorem State.servePass_free (s : State) : (s.servePass).free = s.free :=
  (congrArg State.free (s.servePass_changes) :)
@[simp] theorem State.servePass_banks (s : State) : (s.servePass).banks = s.banks :=
  (congrArg State.banks (s.servePass_changes) :)
@[simp] theorem State.servePass_engine (s : State) : (s.servePass).engine = s.engine :=
  (congrArg State.engine (s.servePass_changes) :)
@[simp] theorem State.servePass_lines (s : State) : (s.servePass).lines = s.lines :=
  (congrArg State.lines (s.servePass_changes) :)
@[simp] theorem State.servePass_lock (s : State) : (s.servePass).lock = s.lock :=
  (congrArg State.lock (s.servePass_changes) :)
@[simp] theorem State.servePass_uIn (s : State) : (s.servePass).uIn = s.uIn :=
  (congrArg State.uIn (s.servePass_changes) :)
@[simp] theorem State.servePass_dIn (s : State) : (s.servePass).dIn = s.dIn :=
  (congrArg State.dIn (s.servePass_changes) :)
@[simp] theorem State.servePass_ports (s : State) : (s.servePass).ports = s.ports :=
  (congrArg State.ports (s.servePass_changes) :)
@[simp] theorem State.servePass_through (s : State) : (s.servePass).through = s.through :=
  (congrArg State.through (s.servePass_changes) :)
@[simp] theorem State.servePass_replies (s : State) : (s.servePass).replies = s.replies :=
  (congrArg State.replies (s.servePass_changes) :)
@[simp] theorem State.servePass_events (s : State) : (s.servePass).events = s.events :=
  (congrArg State.events (s.servePass_changes) :)
@[simp] theorem State.servePass_lost (s : State) : (s.servePass).lost = s.lost :=
  (congrArg State.lost (s.servePass_changes) :)
@[simp] theorem State.servePass_lastWinner (s : State) : (s.servePass).lastWinner = s.lastWinner :=
  (congrArg State.lastWinner (s.servePass_changes) :)
@[simp] theorem State.servePass_uOut (s : State) : (s.servePass).uOut = s.uOut :=
  (congrArg State.uOut (s.servePass_changes) :)
@[simp] theorem State.servePass_uBegun (s : State) : (s.servePass).uBegun = s.uBegun :=
  (congrArg State.uBegun (s.servePass_changes) :)
@[simp] theorem State.servePass_cache (s : State) : (s.servePass).cache = s.cache :=
  (congrArg State.cache (s.servePass_changes) :)
@[simp] theorem State.servePass_settings (s : State) : (s.servePass).settings = s.settings :=
  (congrArg State.settings (s.servePass_changes) :)
@[simp] theorem State.servePass_lease (s : State) : (s.servePass).lease = s.lease :=
  (congrArg State.lease (s.servePass_changes) :)
@[simp] theorem State.servePass_pending (s : State) : (s.servePass).pending = s.pending :=
  (congrArg State.pending (s.servePass_changes) :)

/-! ### What the plain updates write -/

@[simp] theorem State.passTime_now (s : State) (dt : Nat) : (s.passTime dt).now = s.now + dt := rfl
@[simp] theorem State.reach_now (s : State) (t : Nat) : (s.reach t).now = max s.now t := rfl
@[simp] theorem State.count_ports (s : State) (f : PortCounters → PortCounters) : (s.count f).ports = f s.ports := rfl
@[simp] theorem State.pushReply_replies (s : State) (r : Reply) : (s.pushReply r).replies = s.replies ++ [r] := rfl
@[simp] theorem State.eachLine_lines (s : State) (f : Line → Line) : (s.eachLine f).lines = mapAll f s.lines := rfl
@[simp] theorem State.withBanks_banks (s : State) (f : Banks → Banks) : (s.withBanks f).banks = f s.banks := rfl
@[simp] theorem State.setLease_lease (s : State) (l : Lease) : (s.setLease l).lease = l := rfl
@[simp] theorem State.sendUp_uOut (s : State) (c : Cell) : (s.sendUp c).uOut = some c := rfl
@[simp] theorem State.sendBuilt_dOut (s : State) (c : Cell) (f : FlightSource) :
    (s.sendBuilt c f).dOut = some { cell := c, source := f, buffered := false } := rfl
@[simp] theorem State.setLink_link (s : State) (side : Side) (l : Link) : (s.setLink side l).link side = l := by
  cases side <;> rfl

end Sys2Proof.Machine
end

