-- ==== Sys2Proof/Laws/Ops.lean ====
section
/-! SUPPORT. One lemma for each shared operation that says all it does: reading what was written, and the happenings written
from their rules (Safety.lean) as the model's operations. -/

namespace Sys2Proof.Machine

/-! ### Arrays -/

@[simp] theorem getElem_mapAll {α β : Type} {n : Nat} (f : α → β) (v : Vector α n) (i : Nat) (h : i < n) :
    (mapAll f v)[i] = f v[i] := by
  simp [mapAll]

theorem mapAll_congr {α β : Type} {n : Nat} {f g : α → β} (h : ∀ a, f a = g a) (v : Vector α n) : mapAll f v = mapAll g v := by
  rw [funext h]

@[simp] theorem State.record_setRecord_same (s : State) (r : RecordIndex) (x : Record) : (s.setRecord r x).record r = x := by
  simp [State.record, State.setRecord]

theorem State.record_setRecord_ne (s : State) {r r' : RecordIndex} (x : Record) (h : r' ≠ r) :
    (s.setRecord r x).record r' = s.record r' := by
  have h' : r.toNat ≠ r'.toNat := fun e => h (BitVec.eq_of_toNat_eq e.symm)
  simp [State.record, State.setRecord, h']

theorem State.record_setRecord (s : State) (r r' : RecordIndex) (x : Record) :
    (s.setRecord r x).record r' = if r' = r then x else s.record r' := by
  by_cases h : r' = r
  · subst h; simp
  · simp [State.record_setRecord_ne s x h, h]

@[simp] theorem State.setRecord_setRecord (s : State) (r : RecordIndex) (x y : Record) :
    (s.setRecord r x).setRecord r y = s.setRecord r y := by
  simp [State.setRecord]

/-- Records are read from the table alone. -/
theorem State.record_congr {s t : State} (h : s.records = t.records) (r : RecordIndex) : s.record r = t.record r := by
  simp [State.record, h]

theorem State.mapEntry_setMapEntry (s : State) (id id' : StreamId) (e : MapEntry) :
    (s.setMapEntry id e).mapEntry id' = if id' = id then e else s.mapEntry id' := by
  by_cases h : id' = id
  · subst h; simp [State.mapEntry, State.setMapEntry]
  · have h' : id.toNat ≠ id'.toNat := fun c => h (BitVec.eq_of_toNat_eq c.symm)
    simp [State.mapEntry, State.setMapEntry, h', h]

theorem State.line_setLine (s : State) (i i' : BitVec 3) (l : Line) :
    (s.setLine i l).line i' = if i' = i then l else s.line i' := by
  by_cases h : i' = i
  · subst h; simp [State.line, State.setLine]
  · have h' : i.toNat ≠ i'.toNat := fun c => h (BitVec.eq_of_toNat_eq c.symm)
    simp [State.line, State.setLine, h', h]

theorem State.cached_cacheReply (s : State) (r : Reply) (m : Manager) :
    (s.cacheReply r).cached m = if m = r.manager then some r else s.cached m := by
  by_cases h : m = r.manager
  · subst h; simp [State.cached, State.cacheReply]
  · have h' : r.manager.toNat ≠ m.toNat := fun c => h (BitVec.eq_of_toNat_eq c.symm)
    simp [State.cached, State.cacheReply, h', h]

/-! ### Arrivals -/

@[simp] theorem State.passTime_link (s : State) (dt : Nat) (side : Side) : (s.passTime dt).link side = s.link side := by
  cases side <;> rfl

/-- A valid arrival does what R142 says. -/
theorem State.validArrival_eq (s : State) (dt : Nat) (side : Side) : (s.passTime dt).validArrival side = s.valid dt side := by
  cases side
  · show (match s.uIn.status with | .up => _ | .down => _) = _
    unfold State.valid
    cases h : s.uIn.status <;> rfl
  · show (match s.dIn.status with | .up => _ | .down => _) = _
    unfold State.valid
    cases h : s.dIn.status <;> rfl

/-- A good arrival does what R137 and R142 say. -/
theorem State.goodArrival_eq (s : State) (dt : Nat) (side : Side) : (s.passTime dt).goodArrival side = s.heard dt side := by
  rw [State.goodArrival, State.validArrival_eq]
  cases side <;> rfl

/-- A valid arrival changes the tick, its link and the Event Queue only. -/
theorem State.valid_changes (s : State) (dt : Nat) (side : Side) :
    s.valid dt side = { s with
      now := s.now + dt, uIn := (s.valid dt side).uIn, dIn := (s.valid dt side).dIn, events := (s.valid dt side).events,
      lost := (s.valid dt side).lost } := by
  cases side
  · by_cases h : s.uIn.status = .down
    · simp only [State.valid, h, if_true]
      conv_lhs => rw [State.offerEvent_changes]
      simp
    · simp [State.valid, h]
  · by_cases h : s.dIn.status = .down
    · simp only [State.valid, h, if_true]
      conv_lhs => rw [State.offerEvent_changes]
      simp
    · simp [State.valid, h]

/-- A good arrival changes the tick, its link, the port counters and the Event Queue only. -/
theorem State.heard_changes (s : State) (dt : Nat) (side : Side) :
    s.heard dt side = { s with
      now := s.now + dt, uIn := (s.heard dt side).uIn, dIn := (s.heard dt side).dIn, ports := (s.heard dt side).ports,
      events := (s.heard dt side).events, lost := (s.heard dt side).lost } := by
  have h := s.valid_changes dt side
  cases side <;> unfold State.heard <;> dsimp only <;> rw [h]

@[simp] theorem State.heard_now (s : State) (dt : Nat) (side : Side) : (s.heard dt side).now = s.now + dt :=
  (congrArg State.now (s.heard_changes dt side) :)
@[simp] theorem State.heard_pinHeld (s : State) (dt : Nat) (side : Side) : (s.heard dt side).pinHeld = s.pinHeld :=
  (congrArg State.pinHeld (s.heard_changes dt side) :)
@[simp] theorem State.heard_straps (s : State) (dt : Nat) (side : Side) : (s.heard dt side).straps = s.straps :=
  (congrArg State.straps (s.heard_changes dt side) :)
@[simp] theorem State.heard_nodeAddress (s : State) (dt : Nat) (side : Side) : (s.heard dt side).nodeAddress = s.nodeAddress :=
  (congrArg State.nodeAddress (s.heard_changes dt side) :)
@[simp] theorem State.heard_timer (s : State) (dt : Nat) (side : Side) : (s.heard dt side).timer = s.timer :=
  (congrArg State.timer (s.heard_changes dt side) :)
@[simp] theorem State.heard_map (s : State) (dt : Nat) (side : Side) : (s.heard dt side).map = s.map :=
  (congrArg State.map (s.heard_changes dt side) :)
@[simp] theorem State.heard_records (s : State) (dt : Nat) (side : Side) : (s.heard dt side).records = s.records :=
  (congrArg State.records (s.heard_changes dt side) :)
@[simp] theorem State.heard_free (s : State) (dt : Nat) (side : Side) : (s.heard dt side).free = s.free :=
  (congrArg State.free (s.heard_changes dt side) :)
@[simp] theorem State.heard_passQueue (s : State) (dt : Nat) (side : Side) : (s.heard dt side).passQueue = s.passQueue :=
  (congrArg State.passQueue (s.heard_changes dt side) :)
@[simp] theorem State.heard_banks (s : State) (dt : Nat) (side : Side) : (s.heard dt side).banks = s.banks :=
  (congrArg State.banks (s.heard_changes dt side) :)
@[simp] theorem State.heard_engine (s : State) (dt : Nat) (side : Side) : (s.heard dt side).engine = s.engine :=
  (congrArg State.engine (s.heard_changes dt side) :)
@[simp] theorem State.heard_dOut (s : State) (dt : Nat) (side : Side) : (s.heard dt side).dOut = s.dOut :=
  (congrArg State.dOut (s.heard_changes dt side) :)
@[simp] theorem State.heard_lines (s : State) (dt : Nat) (side : Side) : (s.heard dt side).lines = s.lines :=
  (congrArg State.lines (s.heard_changes dt side) :)
@[simp] theorem State.heard_lock (s : State) (dt : Nat) (side : Side) : (s.heard dt side).lock = s.lock :=
  (congrArg State.lock (s.heard_changes dt side) :)
@[simp] theorem State.heard_through (s : State) (dt : Nat) (side : Side) : (s.heard dt side).through = s.through :=
  (congrArg State.through (s.heard_changes dt side) :)
@[simp] theorem State.heard_replies (s : State) (dt : Nat) (side : Side) : (s.heard dt side).replies = s.replies :=
  (congrArg State.replies (s.heard_changes dt side) :)
@[simp] theorem State.heard_lastWinner (s : State) (dt : Nat) (side : Side) : (s.heard dt side).lastWinner = s.lastWinner :=
  (congrArg State.lastWinner (s.heard_changes dt side) :)
@[simp] theorem State.heard_uOut (s : State) (dt : Nat) (side : Side) : (s.heard dt side).uOut = s.uOut :=
  (congrArg State.uOut (s.heard_changes dt side) :)
@[simp] theorem State.heard_uBegun (s : State) (dt : Nat) (side : Side) : (s.heard dt side).uBegun = s.uBegun :=
  (congrArg State.uBegun (s.heard_changes dt side) :)
@[simp] theorem State.heard_cache (s : State) (dt : Nat) (side : Side) : (s.heard dt side).cache = s.cache :=
  (congrArg State.cache (s.heard_changes dt side) :)
@[simp] theorem State.heard_settings (s : State) (dt : Nat) (side : Side) : (s.heard dt side).settings = s.settings :=
  (congrArg State.settings (s.heard_changes dt side) :)
@[simp] theorem State.heard_lease (s : State) (dt : Nat) (side : Side) : (s.heard dt side).lease = s.lease :=
  (congrArg State.lease (s.heard_changes dt side) :)
@[simp] theorem State.heard_pending (s : State) (dt : Nat) (side : Side) : (s.heard dt side).pending = s.pending :=
  (congrArg State.pending (s.heard_changes dt side) :)

@[simp] theorem State.heard_record (s : State) (dt : Nat) (side : Side) (r : RecordIndex) :
    (s.heard dt side).record r = s.record r := State.record_congr (by simp) r

@[simp] theorem State.heard_mapEntry (s : State) (dt : Nat) (side : Side) (id : StreamId) :
    (s.heard dt side).mapEntry id = s.mapEntry id := by
  simp [State.mapEntry]

@[simp] theorem State.heard_cached (s : State) (dt : Nat) (side : Side) (m : Manager) :
    (s.heard dt side).cached m = s.cached m := by
  simp [State.cached]

@[simp] theorem State.heard_line (s : State) (dt : Nat) (side : Side) (i : BitVec 3) : (s.heard dt side).line i = s.line i := by
  simp [State.line]

/-! ### The pool, halts and the lease, as their rules say -/

/-- A Pass Queue verdict judged on `u` and carried out on `t` is what R51 and R52 say. -/
theorem State.applyPass_eq (u : State) (c : Cell) (t : State) : t.applyPass u.passVerdict c = u.passed c t := by
  unfold State.applyPass State.passVerdict State.passed Config.passLimit
  by_cases h : u.passQueue.length < 48 <;> by_cases h' : 0 < u.free <;> simp [h, h'] <;> rfl

/-- The halt of R79. -/
theorem State.haltEngine_eq (s : State) : s.haltEngine = s.halts := by
  unfold State.haltEngine State.halts
  cases h : s.engine <;> rfl

/-- The loss of lock of R128. -/
theorem State.loseLock_eq (s : State) (why : LockReason) : s.loseLock why = s.unlocks why.code := by
  unfold State.loseLock State.unlocks
  rw [State.haltEngine_eq]; rfl

/-- The restart of R129. -/
theorem State.restartLock_eq (s : State) : s.restartLock = s.relocks := by
  unfold State.restartLock State.relocks
  cases s.settings.source
  · rfl
  · exact s.loseLock_eq .restart

/-- The grant of R178. -/
theorem State.grant_eq (s : State) (m : Manager) : s.grant m = s.granted m := rfl

/-- The end of a grant of R181 and R183. -/
theorem State.handOver_eq (s : State) : s.handOver = s.grantEnds := by
  unfold State.handOver State.grantEnds
  cases s.lease.claimant <;> rfl

/-- A slot that serves the Pass Queue, as R53 says. -/
theorem State.servePass_eq (s : State) : s.servePass = s.serves := by
  unfold State.servePass State.serves
  cases h : s.passQueue <;> simp [State.sends, h]

/-- The cell in flight ends: its buffer is freed (R48). -/
theorem State.endFlight_eq (s : State) : s.endFlight = { s with free := s.free + s.inFlight, dOut := none } := by
  unfold State.endFlight State.inFlight
  cases h : s.dOut with
  | none => simp [← h]
  | some f => cases hb : f.buffered <;> simp [hb]

/-- The end of a slot of R48 and R106. -/
theorem State.endSlot_eq (s : State) : s.endSlot = s.slotEnds := by
  have apply_eq : ∀ l : Line, l.apply = l.applies := by
    intro l; unfold Line.apply Line.applies; cases l.staged <;> rfl
  rw [State.endSlot, State.endFlight_eq, State.slotEnds, State.eachLine, mapAll_congr apply_eq]

/-- The lines of a record that go SAFE (R108). -/
theorem State.eachLine_safeFor (s : State) (r : RecordIndex) : s.eachLine (Line.safeFor r) = s.linesSafe r := rfl

/-! ### Requests -/

/-- A request row's arrival: ignored while the pin is held, else heard and routed by its destination (R139). -/
theorem State.requestArrival_eq (s : State) (dt : Nat) (a : Ask) (q : Request) (straps : Address) (h : s.pinHeld = false) :
    s.requestArrival dt a q straps =
      (if q.dest = Config.broadcast then
        (s.heard dt .uIn).passed (requestCell a.operation a.code q) ((s.heard dt .uIn).takeRequest true a q straps)
      else if q.dest = s.nodeAddress then (s.heard dt .uIn).takeRequest false a q straps
      else (s.heard dt .uIn).passed (requestCell a.operation a.code q) (s.heard dt .uIn)) := by
  simp only [State.requestArrival, State.outside, h, Bool.false_eq_true, if_false, State.goodArrival_eq, State.routeRequest,
    State.offerPass, State.applyPass_eq, State.heard_nodeAddress]

/-- A request that the gate takes: what its agent part does, carried (R139, R161, R162). -/
theorem State.requestArrival_carried (s : State) (dt : Nat) (a : Ask) (q : Request) (straps : Address) (h : s.reached q) :
    s.requestArrival dt a q straps =
      s.carried dt a.operation a.code q fun u => u.takeRequest (decide (q.dest = 127#7)) a q straps := by
  rw [s.requestArrival_eq dt a q straps h.1, State.carried, show Config.broadcast = 127#7 from rfl]
  by_cases h' : q.dest = 127#7
  · rw [if_pos h', if_pos h', decide_eq_true h']
  · have h2 := h.2.resolve_right h'
    rw [if_neg h', if_pos h2, if_neg h', decide_eq_false h']

/-- A request taken with reply room and a fresh tag is answered by steps 3 to 8 (R163 to R167). -/
theorem State.takeRequest_answered (u : State) (broadcast : Bool) (a : Ask) (q : Request) (straps : Address)
    (room : u.replies.length < 16) (fresh : ∀ r ∈ u.cached q.manager, r.tag ≠ q.tag) :
    u.takeRequest broadcast a q straps =
      (u.answer broadcast a q straps).1.reply q (u.answer broadcast a q straps).2 := by
  have h : u.repeated q = none := by
    unfold State.repeated
    cases hc : u.cached q.manager with
    | none => rfl
    | some r => simp [fresh r (by simp [hc])]
  unfold State.takeRequest Config.replyLimit
  simp [h, Nat.not_le.mpr room]

/-- A reply of an answer without data is the reply that the statements name. -/
theorem State.reply_plain (s : State) (q : Request) (status : Status) (detail : Word16) :
    s.reply q (.plain status detail) = s.answered q status detail := rfl

/-- A reply of any answer. -/
theorem State.reply_eq (s : State) (q : Request) (a : Answer) :
    s.reply q a = s.replied { manager := q.manager, tag := q.tag, status := a.status, detail := a.detail, count := a.count,
                              data := a.data } := rfl

/-- A manager that holds the lease under the request's epoch, or holds it on broadcast, passes step 5 (R165). -/
theorem Lease.refusal_permitted (s : State) (q : Request) (h : s.permitted q) :
    s.lease.refusal q.manager q.epoch (!decide (q.dest = 127#7)) = none := by
  obtain ⟨h1, h2, h3⟩ := h
  have hb : s.lease.heldBy q.manager = true := by simp [Lease.heldBy, h1, h2]
  unfold Lease.refusal
  rw [if_pos hb]
  by_cases h' : q.dest = 127#7
  · rw [decide_eq_true h']; rfl
  · simp [h3.resolve_left h']

/-- A request that passes steps 1 to 5 is executed, answered and carried (R166, R167). -/
theorem State.requestArrival_executed (s : State) (dt : Nat) (a : Ask) (q : Request) (straps : Address) (h : s.taken q)
    (pass : ∀ u : State, u.lease = s.lease → u.refusalOf (decide (q.dest = 127#7)) a q = none) :
    s.requestArrival dt a q straps = s.carried dt a.operation a.code q fun u =>
      (u.execute a q straps).1.reply q (u.execute a q straps).2 := by
  rw [s.requestArrival_carried dt a q straps h.1]
  have step : (s.heard dt .uIn).takeRequest (decide (q.dest = 127#7)) a q straps =
      ((s.heard dt .uIn).execute a q straps).1.reply q ((s.heard dt .uIn).execute a q straps).2 := by
    rw [State.takeRequest_answered _ _ _ _ _ (by simpa using h.2.1) (by simpa using h.2.2)]
    rw [State.answer, pass (s.heard dt .uIn) (by simp)]
  simp only [State.carried, step]

/-- A request that steps 3 to 5 refuse is answered with the refusal and changes nothing else (R163, R164, R165). -/
theorem State.requestArrival_refused (s : State) (dt : Nat) (a : Ask) (q : Request) (straps : Address) (r : Answer) (h : s.taken q)
    (refused : ∀ u : State, u.lease = s.lease → u.refusalOf (decide (q.dest = 127#7)) a q = some r) :
    s.requestArrival dt a q straps = s.carried dt a.operation a.code q fun u => u.reply q r := by
  rw [s.requestArrival_carried dt a q straps h.1]
  have step : (s.heard dt .uIn).takeRequest (decide (q.dest = 127#7)) a q straps = (s.heard dt .uIn).reply q r := by
    rw [State.takeRequest_answered _ _ _ _ _ (by simpa using h.2.1) (by simpa using h.2.2)]
    rw [State.answer, refused (s.heard dt .uIn) (by simp)]
  simp only [State.carried, step]

/-- A record command of the right form passes steps 3 to 5 (R163, R165). -/
theorem State.refusalOf_record (s : State) (q : Request) (c : RecordCommand) (h : s.allowedRecord q) (u : State)
    (same : u.lease = s.lease) : u.refusalOf (decide (q.dest = 127#7)) (.record c) q = none := by
  obtain ⟨-, hp, hf, hc⟩ := h
  have form : Ask.formRefusal (.record c) q = none := by
    unfold Ask.formRefusal
    simp [Nat.not_lt.mpr hf, hc]
  simp only [State.refusalOf, form, Ask.barredOnBroadcast, Ask.judgedByLease, Bool.and_false, Bool.false_eq_true, if_false,
    if_true, same]
  exact Lease.refusal_permitted s q hp

/-- A record command that passes its checks is executed on its record (R171). -/
theorem State.recordCommand_eq (s : State) (dt : Nat) (c : RecordCommand) (q : Request) (straps : Address)
    (h : s.allowedRecord q) :
    s.requestArrival dt (.record c) q straps = s.carried dt 2 c.code q fun u =>
      (u.executeRecord c q.record).1.reply q (u.executeRecord c q.record).2 :=
  s.requestArrival_executed dt (.record c) q straps ⟨h.1.1, h.1.2.1, h.1.2.2⟩ (s.refusalOf_record q c h)

/-- A command without form checks that step 4 lets pass goes through steps 3 to 5 (R164, R165). -/
theorem State.refusalOf_command (s : State) (q : Request) (a : Ask) (form : a.formRefusal q = none)
    (pass : a.barredOnBroadcast = false ∨ q.dest ≠ 127#7) (h : s.permitted q) (u : State) (same : u.lease = s.lease) :
    u.refusalOf (decide (q.dest = 127#7)) a q = none := by
  have barred : (decide (q.dest = 127#7) && a.barredOnBroadcast) = false := by
    rcases pass with h | h
    · rw [h, Bool.and_false]
    · rw [decide_eq_false h, Bool.false_and]
  simp only [State.refusalOf, form, barred, Bool.false_eq_true, if_false, same]
  split
  · exact Lease.refusal_permitted s q h
  · rfl

/-- A command that is permitted is executed (R171). -/
theorem State.command_eq (s : State) (dt : Nat) (a : Ask) (q : Request) (straps : Address) (form : a.formRefusal q = none)
    (h : s.allowed q) (pass : a.barredOnBroadcast = false ∨ q.dest ≠ 127#7) :
    s.requestArrival dt a q straps = s.carried dt a.operation a.code q fun u =>
      (u.execute a q straps).1.reply q (u.execute a q straps).2 :=
  s.requestArrival_executed dt a q straps h.1 (s.refusalOf_command q a form pass h.2)

/-- First index and count that lie within a class pass check 4 (R163). -/
theorem rangeRefusal_within (q : Request) (cls : ItemClass) (h : q.within cls) : rangeRefusal cls q = none := by
  obtain ⟨h1, h2, h3⟩ := h
  unfold rangeRefusal
  rw [if_neg (by omega), if_neg (by omega)]

/-- A WRITE of a writable class and of the right form is executed by the owner of its class (R169). -/
theorem State.write_eq (s : State) (dt : Nat) (cls : ItemClass) (q : Request) (straps : Address) (h : s.allowedAlone q)
    (writable : cls.readOnly = false) (within : q.within cls) (zero : guardsEntryZero cls = true → q.first ≠ 0) :
    s.requestArrival dt (.write cls) q straps = s.carried dt 1 cls.code q fun u =>
      (u.executeWrite cls q).1.reply q (u.executeWrite cls q).2 := by
  have form : Ask.formRefusal (.write cls) q = none := by
    simp only [Ask.formRefusal, writable, Bool.false_eq_true, if_false, rangeRefusal_within q cls within]
    rw [if_neg]
    intro hc
    rw [Bool.and_eq_true] at hc
    exact zero hc.1 (by simpa using hc.2)
  exact s.command_eq dt (.write cls) q straps form ⟨h.1, h.2.1⟩ (.inr h.2.2)

/-! ### Banks -/

/-- The first slot of 1..length-1 that satisfies a test (R27, R65). -/
theorem Bank.firstSlot_eq_some (b : Bank) (p : SlotEntry → Bool) (k : Nat) :
    b.firstSlot p = some k ↔ b.isFirst (fun e => p e = true) k := by
  unfold Bank.firstSlot Bank.isFirst
  rw [List.find?_range_eq_some]
  simp only [Bool.and_eq_true, decide_eq_true_eq, Bool.not_eq_true, Bool.not_eq_true', Bool.and_eq_false_iff]
  constructor
  · rintro ⟨⟨h1, h2⟩, h3, h4⟩
    refine ⟨h1, by simpa using h3, h2, fun j hj hj1 => ?_⟩
    have := h4 j hj
    grind
  · rintro ⟨h1, h2, h3, h4⟩
    refine ⟨⟨h1, h3⟩, by simpa using h2, fun j hj => ?_⟩
    have := h4 j hj
    grind

/-- No slot of 1..length-1 satisfies a test (R27, R65). -/
theorem Bank.firstSlot_eq_none (b : Bank) (p : SlotEntry → Bool) : b.firstSlot p = none ↔ b.hasNone (fun e => p e = true) := by
  unfold Bank.firstSlot Bank.hasNone
  rw [List.find?_range_eq_none]
  grind

@[simp] theorem Bank.entry_setEntry (b : Bank) (k : Nat) (e : SlotEntry) (j : Nat) :
    (b.setEntry k e).entry j = if j = k ∧ k < 1024 then e else b.entry j := by
  unfold Bank.entry Bank.setEntry
  by_cases hk : k < 1024
  · by_cases hj : j < 1024
    · by_cases h : j = k
      · subst h; simp [hk]
      · have h' : k ≠ j := fun c => h c.symm
        simp [hk, hj, h, h']
    · simp [hk, hj]
      intro h; omega
  · simp [hk]

@[simp] theorem Bank.length_setEntry (b : Bank) (k : Nat) (e : SlotEntry) : (b.setEntry k e).length = b.length := by
  unfold Bank.setEntry; split <;> rfl

/-- A copy step writes its entries and no other, and not the length (R63). -/
theorem copyEntries_entry (active shadow : Bank) (k n j : Nat) (h : k + n ≤ 1024) :
    (copyEntries active shadow k n).entry j = if k ≤ j ∧ j < k + n then active.entry j else shadow.entry j := by
  induction n generalizing shadow k with
  | zero =>
    rw [copyEntries, if_neg (by omega)]
  | succ n ih =>
    rw [copyEntries, ih _ _ (by omega), Bank.entry_setEntry]
    grind

@[simp] theorem copyEntries_length (active shadow : Bank) (k n : Nat) : (copyEntries active shadow k n).length = shadow.length := by
  induction n generalizing shadow k with
  | zero => rfl
  | succ n ih => rw [copyEntries, ih, Bank.length_setEntry]

/-- A reset puts every block in its power-on state at the present tick, with its own event (R11, R157, R173, R174). -/
theorem State.restart_eq (s : State) (straps : Address) (why : StartReason) :
    s.restart straps why =
      { State.reset with
        now := s.now, straps := straps, nodeAddress := straps, timer := { State.reset.timer with start := s.now },
        events := [{ kind := .startedUp, object := none, argument := some why.code, firstCycle := 0, repeats := 1 }],
        pending := s.pending } := by
  simp [State.restart, State.offerEvent, State.masks, State.cleared, Settings.reset, EventKind.code, Config.eventLimit, State.reset,
    Timer.reset]

end Sys2Proof.Machine
end

