-- ==== Sys2Proof/Laws/Layouts.lean ====
section
/-! SUPPORT. The codes and item entries that the model builds are those that Safety.lean lays out from chapter 12. -/

namespace Sys2Proof.Machine

/-! ### Numbers as octets -/

theorem octetField_toNat (o : Octet) : octetField o.toNat = [o] := by simp [octetField]

/-- A 16-bit word as two octets. -/
theorem wordOctets_toNat (w : Word16) : wordOctets w = wordField w.toNat := by
  simp only [wordOctets, wordField, List.cons.injEq, and_true]
  constructor
  · apply BitVec.eq_of_toNat_eq; simp [Nat.shiftRight_eq_div_pow]
  · apply BitVec.eq_of_toNat_eq; simp

/-- A number sent in 16 bits as two octets. -/
theorem wordOctets_ofNat (n : Nat) : wordOctets (BitVec.ofNat 16 n) = wordField n := by
  rw [wordOctets_toNat]
  simp only [wordField, List.cons.injEq, and_true]
  constructor <;> (apply BitVec.eq_of_toNat_eq; simp; try omega)

/-- A narrower field widened to 16 bits as two octets. -/
theorem wordOctets_setWidth {w : Nat} (hw : w ≤ 16) (v : BitVec w) : wordOctets (v.setWidth 16) = wordField v.toNat := by
  have h : v.toNat < 2 ^ 16 := Nat.lt_of_lt_of_le v.isLt (Nat.pow_le_pow_right (by decide) hw)
  rw [wordOctets_toNat, BitVec.toNat_setWidth, Nat.mod_eq_of_lt h]

/-! ### Codes (12.3, 12.4) -/

theorem RecordState.code_eq (x : RecordState) : x.code = BitVec.ofNat 8 (codeIn stateNames x) := by cases x <;> rfl
theorem Status.code_eq (x : Status) : x.code = BitVec.ofNat 8 (codeIn statusNames x) := by cases x <;> rfl
theorem EventKind.code_eq (x : EventKind) : x.code = BitVec.ofNat 8 (codeIn kindNames x) := by cases x <;> rfl
theorem LockState.code_eq (x : LockState) :
    x.code = BitVec.ofNat 8 (codeIn [.free, .seeking, .acquiring, .tracking, .holdover] x) := by cases x <;> rfl
theorem EngineState.code_eq (x : EngineState) : x.code = BitVec.ofNat 8 (codeIn [.halted, .running] x) := by cases x <;> rfl
theorem BankNumber.code_eq (x : BankNumber) : x.code = BitVec.ofNat 8 (codeIn [.zero, .one] x) := by cases x <;> rfl
theorem ShadowCondition.code_eq (x : ShadowCondition) :
    x.code = BitVec.ofNat 8 (match x with | .free => 0 | .copying _ _ => 1 | .swapPending _ => 2) := by cases x <;> rfl
theorem LeaseState.code_eq (x : LeaseState) : x.code = BitVec.ofNat 8 (codeIn [.free, .held] x) := by cases x <;> rfl
theorem LinkStatus.code_eq (x : LinkStatus) : x.code = BitVec.ofNat 8 (codeIn [.down, .up] x) := by cases x <;> rfl
theorem CycleSource.code_eq (x : CycleSource) : x.code = BitVec.ofNat 8 (codeIn [.loc, .line] x) := by cases x <;> rfl
theorem markCode_eq (x : Bool) : markCode x = BitVec.ofNat 8 (codeIn [false, true] x) := by cases x <;> rfl
theorem Delivery.code_eq (x : Delivery) : x.code = BitVec.ofNat 8 (codeIn [.downstream, .localOnly, .both] x) := by cases x <;> rfl
theorem OverflowPolicy.code_eq (x : OverflowPolicy) : x.code = BitVec.ofNat 8 (codeIn [.dropNew, .dropOldest] x) := by cases x <;> rfl
theorem MissPolicy.code_eq (x : MissPolicy) : x.code = BitVec.ofNat 8 (codeIn [.idleCell, .repeatLast, .yieldSlot] x) := by
  cases x <;> rfl
theorem Polarity.code_eq (x : Polarity) : x.code = BitVec.ofNat 8 (codeIn [.direct, .inverted] x) := by cases x <;> rfl
theorem Level.code_eq (x : Level) : x.code = BitVec.ofNat 8 (codeIn [.low, .high] x) := by cases x <;> rfl
theorem LineState.code_eq (x : LineState) : x.code = BitVec.ofNat 8 (codeIn [.disabled, .safe, .driven] x) := by cases x <;> rfl

/-! ### Entries (12.2) -/

theorem MapEntry.word_toNat (e : MapEntry) : e.word.toNat = e.number := by
  cases e with
  | pass | drop => rfl
  | bound r => revert r; decide +kernel

theorem SlotEntry.word_toNat (e : SlotEntry) : e.word.toNat = e.number := by
  cases e with
  | quiet | openSlot => rfl
  | stream r => revert r; decide +kernel

theorem RecordConfig.octets_eq (c : RecordConfig) : c.octets = c.layout := by
  simp [RecordConfig.octets, RecordConfig.layout, Delivery.code_eq, OverflowPolicy.code_eq, MissPolicy.code_eq, octetField]

theorem Line.octets_eq (l : Line) : l.octets = l.layout := by
  unfold Line.octets Line.layout
  rw [wordOctets_ofNat]
  rcases l.source with _ | r <;> rcases l.staged with _ | v <;>
    simp [wordOctets_setWidth, show wordOctets 65535#16 = wordField 65535 from rfl, Polarity.code_eq, Level.code_eq, LineState.code_eq,
      octetField]

theorem Settings.octets_eq (g : Settings) : g.octets = g.layout := by
  simp [Settings.octets, Settings.layout, wordOctets_ofNat, wordOctets_setWidth, CycleSource.code_eq, markCode_eq, octetField]

theorem Record.statusOctets_eq (x : Record) :
    x.statusOctets = octetField (codeIn stateNames x.state) ++
      wordField (match x.bound with | some id => id.toNat | none => 0xFFFF) ++ octetField x.queue.length ++
      octetField x.misses.toNat ++ octetField (match x.lastValue with | some _ => 1 | none => 0) := by
  unfold Record.statusOctets
  rcases x.bound with _ | id <;> rcases x.lastValue with _ | v <;>
    simp [wordOctets_setWidth, show wordOctets 65535#16 = wordField 65535 from rfl, RecordState.code_eq, octetField]

theorem State.statusOctets_eq (s : State) : s.statusOctets = s.entryLayout .status 0 := by
  have held : ∀ m : Manager, m.setWidth 8 = BitVec.ofNat 8 m.toNat := by decide
  unfold State.statusOctets State.entryLayout
  rw [wordOctets_ofNat, wordOctets_toNat, wordOctets_toNat, LockState.code_eq, EngineState.code_eq, BankNumber.code_eq,
    ShadowCondition.code_eq, LeaseState.code_eq]
  rcases s.lease.state with _ | _ <;> rcases s.lease.holder with _ | m
  · rfl
  · rfl
  · rfl
  · dsimp only; rw [held]; rfl

/-- Every entry that a READ returns has the octets that 12.2 gives it. -/
theorem State.entryOctets_eq (s : State) (cls : ItemClass) (k : Nat) : s.entryOctets cls k = s.entryLayout cls k := by
  cases cls with
  | ident =>
    have node : s.nodeAddress.setWidth 8 = BitVec.ofNat 8 s.nodeAddress.toNat := by apply BitVec.eq_of_toNat_eq; simp
    unfold State.entryOctets State.entryLayout State.identOctets
    dsimp only
    rw [node]; rfl
  | status => exact s.statusOctets_eq
  | settings => exact s.settings.octets_eq
  | port =>
    simp [State.entryOctets, State.entryLayout, State.portOctets, PortCounters.words, funext wordOctets_toNat, LinkStatus.code_eq,
      octetField]
  | map => simp only [State.entryOctets, State.entryLayout, wordOctets_toNat, MapEntry.word_toNat]
  | recordConfig => exact RecordConfig.octets_eq _
  | recordStatus => exact Record.statusOctets_eq _
  | recordCounters => simp only [State.entryOctets, State.entryLayout, RecordCounters.octets, funext wordOctets_toNat]
  | activeSlot | shadowSlot => simp only [State.entryOctets, State.entryLayout, wordOctets_toNat, SlotEntry.word_toNat]
  | bankLength => exact wordOctets_ofNat _
  | line => exact Line.octets_eq _

end Sys2Proof.Machine
end

