-- ==== Sys2Proof/Laws/Sending.lean ====
section
/-! SUPPORT. Every choice of a cell puts one into flight, and the views of the outputs show it (R82, R145, R149). -/

namespace Sys2Proof.Machine

/-! ### D-out -/

/-- `t` has a cell in flight on D-out, and the pin and the timer of `s`. -/
abbrev State.SendsFrom (s t : State) : Prop := (∃ f, t.dOut = some f) ∧ t.pinHeld = s.pinHeld ∧ t.timer = s.timer

theorem State.servePass_sends (s : State) : s.SendsFrom s.servePass := by
  unfold State.servePass; split <;> exact ⟨⟨_, rfl⟩, rfl, rfl⟩

theorem State.sendBuilt_sends (s : State) (c : Cell) (source : FlightSource) : s.SendsFrom (s.sendBuilt c source) :=
  ⟨⟨_, rfl⟩, rfl, rfl⟩

theorem State.followPolicy_sends (s : State) (r : RecordIndex) (counts : Bool) : s.SendsFrom (s.followPolicy r counts) := by
  unfold State.followPolicy
  dsimp only
  split
  · exact s.sendBuilt_sends _ _
  · exact s.servePass_sends
  · split
    · cases counts <;> exact ⟨⟨_, rfl⟩, rfl, rfl⟩
    · exact s.sendBuilt_sends _ _

/-- A fault leaves the cell in flight (R31). -/
theorem State.faultRecord_sends (s : State) (r : RecordIndex) (h : ∃ f, s.dOut = some f) : s.SendsFrom (s.faultRecord r) := by
  unfold State.faultRecord
  obtain ⟨f, h⟩ := h
  exact ⟨⟨f, by rw [State.offerEvent_dOut]; exact h⟩, by rw [State.offerEvent_pinHeld]; rfl, by rw [State.offerEvent_timer]; rfl⟩

theorem State.miss_sends (s : State) (r : RecordIndex) : s.SendsFrom (s.miss r) := by
  have h := State.followPolicy_sends
    (s.setRecord r { (s.record r).countMissed with misses := saturate (s.record r).misses }) r true
  unfold State.miss
  dsimp only
  split
  · obtain ⟨hf, hp, ht⟩ := State.faultRecord_sends _ r h.1
    exact ⟨hf, hp.trans h.2.1, ht.trans h.2.2⟩
  · exact h

theorem State.releaseHead_sends (s : State) (r : RecordIndex) (c : Cell) (rest : List Cell) :
    s.SendsFrom (s.releaseHead r c rest) := by
  unfold State.releaseHead
  dsimp only
  split
  · exact ⟨⟨_, rfl⟩, rfl, rfl⟩
  · exact ⟨⟨_, rfl⟩, rfl, rfl⟩
  · exact State.servePass_sends _

theorem State.judge_sends (s : State) (r : RecordIndex) : s.SendsFrom (s.judge r) := by
  unfold State.judge
  dsimp only
  split
  · exact State.miss_sends (s.purge r) r
  · split
    · exact State.releaseHead_sends (s.purge r) r _ _
    · exact State.miss_sends ((s.purge r).setRecord r ((s.purge r).record r).countEarly) r

/-- Every slot of 1..N-1 puts a cell into flight (R82). -/
theorem State.fillSlot_sends (s : State) (k : Nat) : s.SendsFrom (s.fillSlot k) := by
  unfold State.fillSlot State.fillByEntry State.fillReserved
  split
  · exact s.servePass_sends
  · split
    · exact s.servePass_sends
    · exact s.sendBuilt_sends _ _
    · split
      · exact s.judge_sends _
      all_goals first | exact s.followPolicy_sends _ _ | exact s.sendBuilt_sends _ _ | skip
      split
      · exact s.servePass_sends
      all_goals exact s.sendBuilt_sends _ _

/-- Slot 0 puts a cell into flight (R80, R83). -/
theorem State.fillSlotZero_sends (s : State) : s.SendsFrom s.fillSlotZero := by
  unfold State.fillSlotZero
  split
  · exact s.servePass_sends
  · exact s.sendBuilt_sends _ _

/-- In a slot, with the pin not held, D-out carries the cell in flight (R145). -/
theorem State.dOutLine_sends (s : State) (k : Nat) (f : Flight) (pin : s.pinHeld = false) (slot : s.timer.position = .slot k)
    (flight : s.dOut = some f) : s.dOutLine = .sends f.cell := by
  simp [State.dOutLine, pin, slot, flight]

/-! ### U-out -/

/-- The gate's own candidate puts a REP or EVT cell into flight (R155). -/
theorem State.sendOwn_sends (s : State) (o : OwnCandidate) : ∃ c, (s.sendOwn o).uOut = some c := by
  cases o <;> exact ⟨_, rfl⟩

/-- Every cell time puts a cell into flight (R149). -/
theorem State.fillCellTime_sends (s : State) (k : Nat) : ∃ c, (s.fillCellTime k).uOut = some c := by
  unfold State.fillCellTime State.arbitrate
  split
  · exact ⟨_, rfl⟩
  · split
    · exact State.sendOwn_sends _ _
    · exact ⟨_, rfl⟩
    · split
      · exact ⟨_, rfl⟩
      · exact State.sendOwn_sends _ _

/-- U-out carries the cell in flight (R145). -/
theorem State.uOutLine_sends (s : State) (c : Cell) (h : s.uOut = some c) : s.uOutLine = .sends c := by
  simp [State.uOutLine, h]

/-! ### Line pins -/

/-- A line pin shows what its line's state says while the reset pin is not held (R102). -/
theorem State.pinLevel_shows (s : State) (h : s.pinHeld = false) (i : Fin 8) : s.pinLevel i = (s.lines[i.val]'(i.isLt)).shows := by
  simp only [State.pinLevel, h]
  rfl

/-- A staged value that is applied is the level shown (R102, R106). -/
theorem Line.applies_shows (l : Line) : l.applies.shows = match l.staged with | some v => v | none => l.shows := by
  unfold Line.applies
  cases l.staged <;> rfl

end Sys2Proof.Machine
end

