-- ==== Sys2Proof/WellFormed.lean ====
section
/-! DEFINITION. Which commands are well formed: the operands their rows speak of. `exec` gives every command a meaning;
this says which operands the row describes. -/

namespace Sys2Proof

open Machine in
/-- DATA_ARRIVAL carries a DATA cell that passes its check; D_IN_ARRIVAL a cell of kind DATA, REP, EVT, REQ or SYNC that
passes it; WRITE names a read-only class. Every other command is well formed. -/
def Instr.wellFormed : Instr → Bool
  | .dataArrival _ cell => passesCheck cell && kindOf cell == kindData
  | .dInArrival _ cell =>
    passesCheck cell && (kindOf cell == kindData || kindOf cell == kindRep || kindOf cell == kindEvt || kindOf cell == kindReq
      || kindOf cell == kindSync)
  | .write _ cls _ => cls.readOnly
  | .powerOn _ _ | .resetPinAssert _ | .resetPinRelease _ _ | .cellArrival _ _ _ _ | .cellCutShort _ _ | .lossTimerExpiry _
  | .syncArrival _ _ | .read _ _ _ | .writeMap _ _ | .writeRecordConfig _ _ | .writeShadowSlot _ _ | .writeBankLength _ _
  | .writeLine _ _ | .writeSettings _ _ | .fill _ _ | .start _ _ | .pause _ _ | .resume _ _ | .stop _ _ | .release _ _
  | .clearCounters _ _ | .copy _ _ | .copyStep | .copyCompletion | .swap _ _ | .swapAt _ _ | .swapCancel _ _ | .restartLock _ _
  | .clearPortCounters _ _ | .resetSoft _ _ | .resetFull _ _ _ | .acquire _ _ | .renew _ _ | .leaseRelease _ _ | .claim _ _
  | .leaseUnitStep | .leaseExpiry | .cycleBoundary | .slotStart | .guardStart | .cellTimeStart | .syncWindowOpen
  | .syncWindowEnd => true

end Sys2Proof
end

