-- ==== Sys2Proof/Tests/Slice0.lean ====
section
/-! SUPPORT. Small tests: ill-formed commands refused, single steps with values taken from the spec's worked sequences, and
for every statement with hypotheses a state and operands that meet them, clause by clause. -/

namespace Sys2Proof.Tests

open Sys2Proof.Machine

-- One theorem after another: many kernel evaluations at once would need more memory than the check allows.
set_option Elab.async false

/-! ### States and operands -/

/-- The state that a command leaves. -/
def after (c : Instr) (s : State) : State :=
  match exec c s with
  | .next t => t
  | .fault _ => s
  | .refused _ => s

/-- A gate at node 21 whose lease manager 1 holds under epoch 1. -/
def gate : State :=
  { State.cleared 0 21 with
    lease := { state := .held, holder := some 1, epoch := 1, countdown := some 200, base := 0, claimant := none } }

/-- A request from the holder under the current epoch. -/
def ask (first : Word16) (count : Octet) (data : List Octet) : Request :=
  { dest := 21, manager := 1, tag := 9, epoch := 1, first := first, count := count, data := packData data }

/-- The same request sent to every gate. -/
def toAll (q : Request) : Request := { q with dest := 127 }

/-- A reply record of manager 1 with tag 9. -/
def oldReply : Reply := { manager := 1, tag := 9, status := .ok, detail := 0, count := 0, data := 0 }

/-- The status and detail of the last reply queued. -/
def lastAnswer (s : State) : Option (Status × Word16) := s.replies.getLast?.map fun r => (r.status, r.detail)

/-- An empty record in a state. -/
def recordIn (state : RecordState) : Record := { Record.unused with state := state }

/-- The gate with record `r` in a state. -/
def withRecord (r : RecordIndex) (state : RecordState) : State := gate.setRecord r (recordIn state)

/-- A bank of length 8 whose slot 3 holds `e`, and the others QUIET. -/
def plan (e : SlotEntry) : Bank := ({ Bank.reset with length := 8 } : Bank).setEntry 3 e

/-- The gate with these banks. -/
def withPlans (active shadow : Bank) (condition : ShadowCondition) : State :=
  { gate with banks := { active := active, shadow := shadow, activeNumber := .zero, condition := condition } }

/-- A sync window of the cycle that began at tick 0, in its place after reset. -/
def window (isOpen spent : Bool) : Window :=
  { boundary := 0, opening := 0, ending := 768, latency := 256, span := 512, isOpen := isOpen, spent := spent }

/-- The gate with its lock in a state, with these counts and this window. -/
def withLock (state : LockState) (acquisition excursion holdover : Nat) (w : Option Window) : State :=
  { gate with lock := { state := state, acquisition := acquisition, excursion := excursion, holdover := holdover, window := w } }

/-- The gate in LOCAL mode. -/
def localGate : State := { withLock .free 0 0 0 none with settings := { Settings.reset with source := .loc } }

/-- The gate in slot `k` of a cycle of `n` slots, its engine running the bank whose slot 3 holds `e`. -/
def inSlot (k n : Nat) (e : SlotEntry) : State :=
  { withPlans (plan e) .reset .free with
    engine := .running, timer := { gate.timer with length := n, position := .slot k } }

/-! ### WellFormed refuses ill-formed commands -/

theorem smoke_data_arrival_of_a_sync_cell : Instr.wellFormed (.dataArrival 0 (syncCell 0)) = false := by decide +kernel
theorem smoke_data_arrival_with_a_bad_check :
    Instr.wellFormed (.dataArrival 0 { header := dataHeader 700 12, payload := 0, check := 0 }) = false := by decide +kernel
theorem smoke_d_in_arrival_of_an_idle_cell : Instr.wellFormed (.dInArrival 0 idleCell) = false := by decide +kernel
theorem smoke_write_of_a_writable_class : Instr.wellFormed (.write 0 .map (ask 0 1 [])) = false := by decide +kernel
theorem smoke_good_commands :
    Instr.wellFormed (.dataArrival 0 (dataCell 700 12 0)) = true ∧ Instr.wellFormed (.dInArrival 0 (syncCell 77)) = true ∧
    Instr.wellFormed (.write 0 .ident (ask 0 1 [])) = true := by decide +kernel

/-- No row of the table gives bits, so no word spells a command. -/
theorem test_no_word_spells_a_command : decodeTableWord 16 0x1234 = none ∧ gate.withFetchWord 16 0x1234 = gate := ⟨rfl, rfl⟩

/-- 12.5, R102, R136, R146: from power-on until the release of the pin nothing is received, and the outputs send fill. -/
theorem test_power_on_holds_the_pin :
    let t := after (.powerOn 0 21) gate
    (after (.cellArrival 0 .uIn idleCell 21) t).ports.uGood = 0 ∧ t.dOutLine = .fill ∧
      (after (.cellArrival 0 .uIn idleCell 21) (after (.resetPinRelease 1000 21) t)).ports.uGood = 1 := by decide +kernel

/-- R1, R149: a cell time of U-out does not begin before its slot, so a slot that a seed cuts off takes no reply with it. -/
theorem test_cell_time_waits_for_its_slot :
    let s : State := { inSlot 6 8 .quiet with uBegun := 7, replies := [oldReply] }
    (after .cellTimeStart s).replies = [oldReply] ∧ (after .cellTimeStart (after .slotStart s)).replies = [] := by decide +kernel

/-! ### Values of the spec's worked sequences -/

/-- 12.2: a SYNC cell with number 0 starts with 20h and 43 zero octets. -/
theorem test_sync_cell_octets : (syncCell 0).header = 0x20000000 ∧ (syncCell 0).payload = 0 := by decide +kernel

/-- The published check of the nine digits 1 to 9 under this generator and preset is 29B1h. -/
theorem test_check_of_digits : crcBits ((0x313233343536373839#72).setWidth 352) 72 0xFFFF#16 = 0x29B1#16 := by decide +kernel

/-- 1.8.2: a seed at tick 2,000 with L = 4,000 and 64 slots places the boundary at 30,896 with number 301. -/
theorem test_seed_placement :
    let s := { gate with settings := { Settings.reset with latency := 4000 },
                         timer := { gate.timer with number := 7, length := 64, position := .slot 3 } }
    (after (.syncArrival 2000 300) s).timer.placement = some 30896 ∧
      (after (.syncArrival 2000 300) s).timer.nextNumber = some 301 := by decide +kernel

/-- 1.8.3: a placement that falls inside the slot in progress moves to 8,220, with number 52. -/
theorem test_seed_moved_by_one_cycle :
    let s := { gate with settings := { Settings.reset with latency := 4000, guard := 64 },
                         timer := { gate.timer with length := 8, position := .slot 7, guardBase := 64 } }
    (after (.syncArrival 3900 50) s).timer.placement = some 8220 ∧ (after (.syncArrival 3900 50) s).timer.nextNumber = some 52 := by
  decide +kernel

/-- 1.8.1: the guard of a cycle of 64 slots with trim +12 ends at 32,908, where cycle 1001 begins with the next trim. -/
theorem test_boundary_after_trims :
    let s := { gate with timer := { gate.timer with number := 1000, length := 64, position := .guard, trim := 12, nextTrim := some (-30) } }
    (after .cycleBoundary s).timer.start = 32908 ∧ (after .cycleBoundary s).timer.number = 1001 ∧
      (after .cycleBoundary s).timer.trim = -30 := by decide +kernel

/-- 7.15: SYNC 701 at tick 42,900 of the window of cycle 701 has a phase error of +4, which becomes the trim. -/
theorem test_phase_error_of_four :
    let w : Window := { boundary := 42640, opening := 42384, ending := 43408, latency := 256, span := 512, isOpen := true, spent := false }
    let s := { withLock .acquiring 0 0 0 (some w) with
               now := 42640, timer := { gate.timer with number := 701, length := 64, start := 42640 } }
    (after (.syncArrival 260 701) s).timer.trim = 4 ∧ (after (.syncArrival 260 701) s).lock.acquisition = 1 := by decide +kernel

/-- 2.8, step 1: a RECORD_CONFIG write allocates the record. -/
theorem test_config_allocates :
    ((after (.writeRecordConfig 0 (ask 12 1 [0, 4, 0, 0, 3, 0])) gate).record 12).state = .idle ∧
      ((after (.writeRecordConfig 0 (ask 12 1 [0, 4, 0, 0, 3, 0])) gate).record 12).config.faultThreshold = 3 := by
  decide +kernel

/-- 2.8, step 2: MAP 700 = BOUND(12) binds the record. -/
theorem test_map_binds :
    ((after (.writeMap 0 (ask 700 1 [0x80, 12])) (withRecord 12 .idle)).record 12).bound = some 700 ∧
      lastAnswer (after (.writeMap 0 (ask 700 1 [0x80, 12])) (withRecord 12 .idle)) = some (.ok, 0) := by decide +kernel

/-- 2.8, step 15: RELEASE of a FAULTED record is WRONG_STATE with the state's code, 6. -/
theorem test_release_of_faulted : lastAnswer (after (.release 0 (ask 12 1 [])) (withRecord 12 .faulted)) = some (.wrongState, 6) := by
  decide +kernel

/-- 2.8, step 17: RELEASE names the slot of the active bank. -/
theorem test_release_in_use :
    lastAnswer (after (.release 0 (ask 12 1 [])) { withPlans (plan (.stream 12)) .reset .free with records := (withRecord 12 .idle).records }) =
      some (.inUse, 3) := by decide +kernel

/-- 3.9, step 6: a PASS cell that meets an empty pool is a pass drop, with POOL_EXHAUSTED. -/
theorem test_pass_with_empty_pool :
    let t := after (.dataArrival 0 (dataCell 700 12 0)) { gate with free := 0 }
    t.ports.uPassDrops = 1 ∧ (t.events.map (·.kind)).contains .poolExhausted := by decide +kernel

/-- 3.9, step 7: a cell for a DROP_OLDEST record at its limit replaces the head, which counts late. -/
theorem test_drop_oldest :
    let x := { recordIn .running with bound := some 700, config := { RecordConfig.default with overflow := .dropOldest, depthLimit := 1 },
                                      queue := [dataCell 700 20 0] }
    let t := after (.dataArrival 0 (dataCell 700 24 0)) ((gate.setRecord 4 x).setMapEntry 700 (.bound 4))
    (t.record 4).queue.map tagOf = [24] ∧ (t.record 4).counters.late = 1 := by decide +kernel

/-- 4.10, step 6: SWAP_AT of a valid shadow answers OK with the number of the bank that will be ACTIVE. -/
theorem test_swap_at :
    lastAnswer (after (.swapAt 0 (ask 0 0 [0x13, 0x92])) (withPlans (plan .openSlot) (plan .openSlot) .free)) = some (.ok, 1) := by
  decide +kernel

/-- 4.10, step 10: cycle 5012 takes the swap of SWAP_AT(5010), with SWAP_DONE 1. -/
theorem test_swap_taken_after_a_slip :
    let s := { withPlans .reset (plan .openSlot) (.swapPending (.cycle 5010)) with
               timer := { gate.timer with number := 5011, position := .guard } }
    (after .cycleBoundary s).banks.activeNumber = .one ∧ (after .cycleBoundary s).timer.length = 8 ∧
      (after .cycleBoundary s).events.map (fun e => (e.kind, e.argument)) = [(.swapDone, some 1)] := by decide +kernel

/-- 5.7.1, step 4: an ahead head is a miss, counted early, and REPEAT sends the last value with tag 60. -/
theorem test_ahead_head_repeats :
    let x := { recordIn .running with config := { RecordConfig.default with missPolicy := .repeatLast },
                                      lastValue := some { payload := 5, stream := 700, tag := 60 }, queue := [dataCell 700 58 0] }
    let s := { inSlot 2 8 (.stream 20) with timer := { (inSlot 2 8 .quiet).timer with number := 3001 } }
    let t := after .slotStart (s.setRecord 20 x)
    (t.record 20).misses = 1 ∧ (t.record 20).counters.early = 1 ∧ t.dOut.map (·.cell) = some (dataCell 700 60 5) := by
  decide +kernel

/-- 5.7.1, step 1: a stale head is purged and the due head behind it goes out with its tag plus the retag offset. -/
theorem test_purge_and_release :
    let x := { recordIn .running with config := { RecordConfig.default with retag := 4 },
                                      queue := [dataCell 700 55 0, dataCell 700 56 0, dataCell 700 58 0] }
    let s := { inSlot 2 8 (.stream 20) with timer := { (inSlot 2 8 .quiet).timer with number := 3000 } }
    let t := after .slotStart (s.setRecord 20 x)
    (t.record 20).queue.map tagOf = [58] ∧ (t.record 20).counters.late = 1 ∧ (t.dOut.map fun f => tagOf f.cell) = some 60 := by
  decide +kernel

/-- 6.6, steps 1 and 2: an INVERTED line staged from a 1 bit drives LOW once its slot ends. -/
theorem test_inverted_line :
    let l : Line := { source := some 30, bitIndex := 7, polarity := .inverted, safeLevel := .high, state := .safe, applied := .low, staged := none }
    (Line.stageFor 30 (1#320 <<< 312) l).staged = some .low ∧ (Line.stageFor 30 (1#320 <<< 312) l).apply.pin = .low ∧ l.pin = .high := by
  decide +kernel

/-- 8.8, step 12: a cell of kind 6 counts as unknown and not as good. -/
theorem test_unknown_kind :
    (after (.cellArrival 0 .uIn (buildCell 0xC0000000 0) 0) gate).ports.uUnknown = 1 ∧
      (after (.cellArrival 0 .uIn (buildCell 0xC0000000 0) 0) gate).ports.uGood = 0 := by decide +kernel

/-- 10.7, step 2: with 16 replies held a request is dropped and reported with its manager and tag. -/
theorem test_full_reply_queue :
    let t := after (.start 0 { ask 8 1 [] with manager := 2, tag := 11 }) { gate with replies := List.replicate 16 oldReply }
    t.ports.uReplyDrops = 1 ∧ t.events.getLast?.map (fun e => (e.kind, e.object, e.argument)) = some (.replyDropped, some 2, some 11) := by
  decide +kernel

/-- 11.8, step 2: a claim at countdown 50 shortens it to the grace of 20. -/
theorem test_claim_shortens :
    let s := { gate with lease := { gate.lease with countdown := some 50 } }
    (after (.claim 0 { ask 0 0 [] with manager := 2 }) s).lease.countdown = some 20 := by decide +kernel

/-- 11.8, step 5: the expiry hands the lease to the claimant with the next epoch. -/
theorem test_expiry_hands_over :
    let s := { gate with lease := { gate.lease with countdown := some 1, epoch := 17, claimant := some 2 } }
    (after .leaseExpiry s).lease.holder = some 2 ∧ (after .leaseExpiry s).lease.epoch = 18 ∧
      (after .leaseExpiry s).events.map (fun e => (e.kind, e.argument)) = [(.leaseExpired, none), (.leaseGranted, some 18)] := by
  decide +kernel

/-- R102, R106, R145: in a slot D-out and U-out carry the cells chosen, and from the guard start the lines show what was applied
and both outputs send fill. -/
theorem test_outputs_show_the_cells :
    let s : State := { inSlot 6 8 .quiet with
      passQueue := [dataCell 700 12 5], replies := [oldReply], engine := .halted,
      lines := gate.lines.set 7 { Line.reset with source := some 30, state := .driven, staged := some .high } }
    let t := after .cellTimeStart (after .slotStart s)
    let g := after .guardStart t
    t.dOutLine = .sends (dataCell 700 12 5) ∧ t.uOutLine = .sends (replyCell 21 oldReply) ∧ t.pinLevel 7 = .high ∧
      t.pinLevel 0 = .low ∧ g.dOutLine = .fill ∧ g.uOutLine = .fill ∧ g.pinLevel 7 = .high := by decide +kernel

/-! ### Witnesses: the hypotheses of each statement can be met together, clause by clause -/

/-- The gate with its reply queue as long as given. -/
def withReplies (n : Nat) : State := { gate with replies := List.replicate n oldReply }

/-- The gate with the lease FREE. -/
def freeGate : State :=
  { gate with lease := { state := .free, holder := none, epoch := 1, countdown := none, base := 0, claimant := none } }

/-- A record at a queue length, depth limit and overflow policy. -/
def queued (n limit : Nat) (overflow : OverflowPolicy) : Record :=
  { recordIn .filling with bound := some 700, config := { RecordConfig.default with depthLimit := limit, overflow := overflow },
                           queue := List.replicate n (dataCell 700 0 0) }

/-- The gate with identifier 700 bound to record 255. -/
def boundGate (x : Record) : State := (gate.setRecord 255 x).setMapEntry 700 (.bound 255)

theorem witness_StepTakesTheFrontCommand :
    ({ gate with pending := [.copyStep] } : State).pending = .copyStep :: [] ∧ gate.pending = [] := ⟨rfl, rfl⟩

/-- A line of record 255 in a state, with this staged value. -/
def lineIn (state : LineState) (staged : Option Level) : Line :=
  { source := some 255, bitIndex := 0, polarity := .direct, safeLevel := .high, state := state, applied := .high, staged := staged }

/-- R102, at the first and the last line: DISABLED shows LOW, SAFE its safe level, DRIVEN its applied value. -/
theorem witness_ResetPinCutsOffTheOutputs :
    let s : State := { gate with
      lines := (gate.lines.set 0 (lineIn .safe none)).set 7 (lineIn .driven none) }
    s.pinHeld = false ∧ (s.lines[0]).shows = .high ∧ (s.lines[1]).shows = .low ∧ (s.lines[7]).shows = .high := by decide +kernel

theorem witness_HeldPinStopsTheGate : (after (.resetPinAssert 3) gate).pinHeld = true := by decide +kernel

theorem witness_OwnClockFallsOnItsTick :
    gate.pinHeld = false ∧
    ({ gate with dIn := { status := .up, lastValid := some 5 } } : State).dueTick (.lossTimerExpiry .dIn) = some 8197 ∧
    gate.dueTick (.lossTimerExpiry .uIn) = none ∧
    (withPlans .reset .reset (.copying 0 62)).dueTick .copyStep = some 32256 ∧ gate.dueTick .copyStep = none ∧
    (withPlans .reset .reset (.copying 0 63)).dueTick .copyCompletion = some 32768 ∧ gate.dueTick .copyCompletion = none ∧
    gate.dueTick .leaseUnitStep = some 524288 ∧ freeGate.dueTick .leaseUnitStep = none ∧
    ({ gate with lease := { gate.lease with countdown := some 1 } } : State).dueTick .leaseExpiry = some 524288 ∧
    gate.dueTick .leaseExpiry = none ∧
    ({ gate with timer := { gate.timer with position := .guard } } : State).dueTick .cycleBoundary = some 131200 ∧
    gate.dueTick .cycleBoundary = none ∧
    (inSlot 6 8 .quiet).dueTick .slotStart = some 3584 ∧ (inSlot 7 8 .quiet).dueTick .slotStart = none ∧
    (inSlot 7 8 .quiet).dueTick .guardStart = some 4096 ∧ (inSlot 6 8 .quiet).dueTick .guardStart = none ∧
    gate.dueTick .cellTimeStart = some 0 ∧
    ({ gate with timer := { gate.timer with position := .guard } } : State).dueTick .cellTimeStart = none ∧
    (withLock .tracking 3 0 0 (some (window false false))).dueTick .syncWindowOpen = some 0 ∧ gate.dueTick .syncWindowOpen = none ∧
    (withLock .tracking 3 0 0 (some (window true false))).dueTick .syncWindowEnd = some 768 ∧ gate.dueTick .syncWindowEnd = none := by
  decide +kernel

theorem witness_UnroutedCellsAreOnlyCounted :
    gate.pinHeld = false ∧ ({ idleCell with check := 0 } : Cell).check ≠ checkOf idleCell.header idleCell.payload ∧
    (∀ h : BitVec 32, (buildCell h 0).check = checkOf (buildCell h 0).header (buildCell h 0).payload) ∧
    kindOf (buildCell 0xC0000000 0) = 6 ∧ kindOf (buildCell 0xE0000000 0) = 7 ∧ kindOf (buildCell 0x00000000 0) = 0 ∧
    kindOf (buildCell 0x80050000 0) = 4 ∧ kindOf (buildCell 0xA0050000 0) = 5 ∧ kindOf (buildCell 0x20000000 0) = 1 ∧
    kindOf (buildCell 0x60150000 0) = 3 := by
  exact ⟨rfl, by decide +kernel, fun h => by simp only [buildCell], by decide +kernel⟩

theorem witness_DInCellsGoToTheThroughFifo :
    gate.pinHeld = false ∧ kindOf (dataCell 900 3 0) = 2 ∧ kindOf (syncCell 77) = 1 ∧
    ({ gate with through := List.replicate 31 idleCell } : State).through.length < 32 ∧
    32 ≤ ({ gate with through := List.replicate 32 idleCell } : State).through.length := by decide +kernel

theorem witness_ArrivalRowsAreCellArrivals :
    (syncCell 65535).check = checkOf (syncCell 65535).header (syncCell 65535).payload ∧ kindOf (syncCell 65535) = 1 ∧
    (dataCell 4095 63 0).check = checkOf (dataCell 4095 63 0).header (dataCell 4095 63 0).payload ∧ kindOf (dataCell 4095 63 0) = 2 ∧
    requestRow (.resetFull 3 (ask 0 0 []) 127) = some (3, 2, 0x31, ask 0 0 []) ∧
    ∀ sampled, Instr.resetFull 3 (ask 0 0 []) 127 = .resetFull 3 (ask 0 0 []) sampled → (127 : Address) = sampled := by
  refine ⟨by decide +kernel, by decide +kernel, by decide +kernel, by decide +kernel, rfl, fun sampled h => ?_⟩
  injection h

theorem witness_CellsGiveTheirFieldsBack :
    let entry : EventEntry := { kind := .replyDropped, object := some 3, argument := none, firstCycle := 65535, repeats := 255 }
    (List.replicate 4 entry).length ≤ 4 ∧ (List.replicate 4 entry)[3]? = some entry ∧ ([] : List EventEntry).length ≤ 4 ∧
    (2 + 8 * 4 ≤ 34 ∧ 34 < 40) ∧ (2 + 8 * 0 ≤ 2 ∧ 39 < 40) := by decide +kernel

theorem witness_EntryEncodingsRoundTrip :
    (List.replicate 32 (0xFF : Octet)).length ≤ 32 ∧ (31 < 32 ∧ 30 < 31) ∧
    ((List.replicate 16 (MapEntry.bound 255)).length ≤ 16 ∧ (List.replicate 16 (MapEntry.bound 255))[15]? = some (.bound 255)) ∧
    ((List.replicate 16 (SlotEntry.stream 255)).length ≤ 16 ∧ (List.replicate 16 (SlotEntry.stream 255))[15]? = some (.stream 255)) ∧
    ([8, 1024].length ≤ 2 ∧ [8, 1024][1]? = some 1024) ∧
    (∀ n ∈ [1, 32], let c : RecordConfig := { RecordConfig.default with depthLimit := n }
      (List.replicate 5 c).length ≤ 5 ∧ (List.replicate 5 c)[4]? = some c ∧ 1 ≤ c.depthLimit ∧ c.depthLimit ≤ 32) ∧
    (RecordConfig.ofData (packData [2, 32, 1, 2, 255, 31]) 0).isSome = true ∧
    (let l : Line := { Line.reset with bitIndex := 319 }
     (List.replicate 3 l).length ≤ 3 ∧ (List.replicate 3 l)[2]? = some l ∧ l.bitIndex ≤ 319) ∧
    (LineConfig.ofData (packData [0xFF, 0xFF, 1, 63, 1, 1]) 0).isSome = true ∧
    SettingsLaw { gate with settings :=
      { guard := 1024, source := .loc, latency := 4095, window := 4095, lockWindow := 4095, holdoverLimit := 255, mark := true,
        mask := 0x3FFE, leaseTimeout := 255, claimGrace := 1 } } ∧
    (Settings.ofData (packData gate.settings.layout)).isSome = true := by
  unfold SettingsLaw; decide +kernel

theorem witness_LossTimerTakesASideDown :
    gate.pinHeld = false ∧
    ({ gate with uIn := { status := .up, lastValid := some 0 } } : State).uIn = { status := .up, lastValid := some 0 } ∧
    ({ gate with dIn := { status := .up, lastValid := some 0 } } : State).dIn = { status := .up, lastValid := some 0 } := by
  decide +kernel

theorem witness_UnboundCellsPassOrDrop :
    gate.pinHeld = false ∧ (gate.setMapEntry 4095 .drop).mapEntry (streamOf (dataCell 4095 0 0)) = .drop ∧
    gate.mapEntry (streamOf (dataCell 700 0 0)) = .pass ∧
    requestRow (.fill 0 { ask 0 1 [] with dest := 126 }) = some (0, 2, 0x01, { ask 0 1 [] with dest := 126 }) ∧
    (126 : Address) ≠ gate.nodeAddress ∧ (126 : Address) ≠ 127#7 := by decide +kernel

theorem witness_RecordAdmission :
    gate.pinHeld = false ∧ (boundGate (recordIn .idle)).mapEntry (streamOf (dataCell 700 0 0)) = .bound 255 ∧
    ((boundGate (recordIn .faulted)).record 255).state = .faulted ∧
    ((queued 31 32 .dropNew).state = .filling ∧ (queued 31 32 .dropNew).queue.length < 32 ∧ 0 < gate.free) ∧
    ((queued 4 4 .dropNew).config.depthLimit ≤ (queued 4 4 .dropNew).queue.length ∧ (queued 4 4 .dropNew).config.overflow = .dropNew) ∧
    ((queued 4 4 .dropOldest).config.depthLimit ≤ (queued 4 4 .dropOldest).queue.length ∧
      (queued 4 4 .dropOldest).config.overflow = .dropOldest) ∧
    ((queued 3 4 .dropOldest).queue.length < 4 ∧ ({ gate with free := 0 } : State).free = 0 ∧ (queued 3 4 .dropOldest).queue ≠ []) ∧
    (queued 0 4 .dropOldest).queue = [] ∧ (queued 3 4 .dropNew).config.overflow = .dropNew := by decide +kernel

theorem witness_EventsAreOfferedInOrder :
    let masked : State := { gate with settings := { Settings.reset with mask := 0x2000 } }
    let entry : EventEntry := { kind := .copyDone, object := none, argument := none, firstCycle := 0, repeats := 255 }
    masked.settings.mask.getLsbD EventKind.replyDropped.code.toNat = true ∧
    gate.settings.mask.getLsbD EventKind.copyDone.code.toNat = false ∧
    (∃ e ∈ ({ gate with events := [entry] } : State).events, e.kind = .copyDone ∧ e.object = none) ∧
    (¬(∃ e ∈ gate.events, e.kind = .copyDone ∧ e.object = none) ∧ gate.events.length < 32) ∧
    (let full : State := { gate with events := (List.range 32).map fun k => { entry with kind := .streamFault, object := some (BitVec.ofNat 8 k) } }
     ¬(∃ e ∈ full.events, e.kind = .copyDone ∧ e.object = none) ∧ 32 ≤ full.events.length ∧
       (full.events.map fun e => (e.kind, e.object)).Nodup) := by decide +kernel

/-! #### SYNC cells -/

theorem witness_SyncCellsIgnored :
    localGate.pinHeld = false ∧ localGate.settings.source = .loc ∧ gate.settings.source = .line ∧
    (∀ spent ∈ [window true true, window false false],
      (withLock .tracking 3 0 0 (some spent)).lock.state = .tracking ∧
      ∀ w ∈ (withLock .tracking 3 0 0 (some spent)).lock.window, ¬w.takes) := by decide +kernel

theorem witness_SyncCellsSeed :
    gate.pinHeld = false ∧ gate.settings.source = .line ∧ gate.lock.state = .seeking ∧
    (let s := withLock .acquiring 2 0 0 (some (window true false))
     let u := s.heard 256 .uIn
     s.lock.state = .acquiring ∧ s.lock.window = some (window true false) ∧ (window true false).takes ∧
       (5 : Word16) ≠ u.expects (window true false)) ∧
    ¬((withLock .acquiring 2 0 0 (some (window true false))).heard 321 .uIn).isInLock (window true false) := by decide +kernel

theorem witness_SyncCellsAcquire :
    ∀ count ∈ [0, 1, 2],
      let s := withLock .acquiring count 0 0 (some (window true false))
      let u := s.heard 320 .uIn
      s.pinHeld = false ∧ s.settings.source = .line ∧ s.lock.state = .acquiring ∧ s.lock.window = some (window true false) ∧
      (window true false).takes ∧ (0 : Word16) = u.expects (window true false) ∧ u.isInLock (window true false) ∧
      (s.lock.acquisition + 1 < 3 ∨ 3 ≤ s.lock.acquisition + 1) := by decide +kernel

theorem witness_SyncCellsTrack :
    ∀ excursion ∈ [0, 1, 2],
      let s := withLock .tracking 3 excursion 0 (some (window true false))
      s.pinHeld = false ∧ s.settings.source = .line ∧ s.lock.state = .tracking ∧ s.lock.window = some (window true false) ∧
      (window true false).takes ∧ (s.heard 192 .uIn).isInLock (window true false) ∧
      ¬(s.heard 191 .uIn).isInLock (window true false) ∧ (s.lock.excursion + 1 < 3 ∨ 3 ≤ s.lock.excursion + 1) := by decide +kernel

theorem witness_SyncCellsRecover :
    ∀ counts ∈ [(0, 1), (1, 6), (1, 7), (2, 7)],
      let s := withLock .holdover 3 counts.1 counts.2 (some (window true false))
      s.pinHeld = false ∧ s.settings.source = .line ∧ s.lock.state = .holdover ∧ s.lock.window = some (window true false) ∧
      (window true false).takes ∧ (s.heard 320 .uIn).isInLock (window true false) ∧
      ¬(s.heard 321 .uIn).isInLock (window true false) ∧
      (3 ≤ s.lock.excursion + 1 ↔ counts.1 = 2) ∧ (s.settings.holdoverLimit ≤ min (s.lock.holdover + 1) 255 ↔ counts.2 = 7) := by
  decide +kernel

theorem witness_SyncWindowsOpenAndEnd :
    let limit (n : Nat) (s : State) : State := { s with settings := { Settings.reset with holdoverLimit := n } }
    gate.pinHeld = false ∧ (window false false).isOpen = false ∧ (window true true).isOpen = true ∧ (window true true).spent = true ∧
    (window true false).boundary = gate.timer.start ∧ (window true false).spent = false ∧
    (withLock .acquiring 0 0 0 (some (window true false))).lock.window = some (window true false) ∧
    (withLock .acquiring 0 0 0 (some (window true false))).lock.state = .acquiring ∧
    1 < (limit 2 (withLock .tracking 3 0 0 (some (window true false)))).settings.holdoverLimit ∧
    (limit 1 (withLock .tracking 3 0 0 (some (window true false)))).settings.holdoverLimit ≤ 1 ∧
    (limit 8 (withLock .holdover 3 0 7 (some (window true false)))).settings.holdoverLimit ≤ min (7 + 1) 255 ∧
    min (6 + 1) 255 < (limit 8 (withLock .holdover 3 0 6 (some (window true false)))).settings.holdoverLimit := by decide +kernel

/-! #### Requests -/

theorem witness_FullReplyQueueDropsRequests :
    requestRow (.start 0 (ask 8 1 [])) = some (0, 2, 0x02, ask 8 1 []) ∧ (withReplies 16).reached (ask 8 1 []) ∧
    (withReplies 16).reached (toAll (ask 8 1 [])) ∧ 16 ≤ (withReplies 16).replies.length := by decide +kernel

theorem witness_RepeatedTagsAreAnsweredFromTheCache :
    let s := { withReplies 15 with cache := Vector.replicate 4 (some oldReply) }
    requestRow (.fill 0 (ask 8 1 [])) = some (0, 2, 0x01, ask 8 1 []) ∧ s.reached (ask 8 1 []) ∧ s.replies.length < 16 ∧
    s.cached (ask 8 1 []).manager = some oldReply ∧ oldReply.tag = (ask 8 1 []).tag := by decide +kernel

theorem witness_MalformedRequestsAreRefused :
    (∀ q ∈ [ask 0 0 [], ask 4096 1 [], ask 0 17 [], ask 4095 2 [], ask 256 1 [], ask 255 2 [], toAll (ask 0 0 [])], gate.taken q) ∧
    3 < (4 : BitVec 4).toNat ∧ 11 < (12 : Octet).toNat ∧ 7 < (8 : Octet).toNat ∧
    (8 : Octet) ∉ [0x10, 0x11, 0x12, 0x13, 0x20, 0x21, 0x30, 0x31] ∧ 3 < (4 : Octet).toNat ∧
    ItemClass.activeSlot.readOnly = true ∧ ItemClass.map.readOnly = false ∧
    ((ask 0 0 []).count.toNat = 0 ∧ ItemClass.map.maxCount < (ask 0 17 []).count.toNat) ∧
    (1 ≤ (ask 4095 2 []).count.toNat ∧ (ask 4095 2 []).count.toNat ≤ ItemClass.map.maxCount ∧
      ItemClass.map.size < (ask 4095 2 []).first.toNat + (ask 4095 2 []).count.toNat) ∧
    ((ask 0 16 []).within .shadowSlot ∧ (ask 0 2 []).within .bankLength ∧ (ask 0 2 []).first = 0) ∧
    (255 < (ask 256 1 []).first.toNat ∧ (ask 255 2 []).count ≠ 1) := by decide +kernel

theorem witness_BroadcastAndLeaseRefusals :
    gate.taken (toAll (ask 4095 1 [])) ∧ passesForm 1 0x4 (toAll (ask 4095 1 [])) ∧ passesForm 2 0x31 (toAll (ask 0 0 [])) ∧
    passesForm 3 3 (toAll (ask 0 0 [])) ∧ passesForm 0 0x1 (ask 0 1 []) ∧
    (freeGate.taken (ask 0 0 []) ∧ passesForm 2 0x10 (ask 0 0 []) ∧ freeGate.lease.state = .free) ∧
    (gate.taken { ask 255 1 [] with manager := 2 } ∧ passesForm 2 0x07 { ask 255 1 [] with manager := 2 } ∧
      gate.lease.holder = some 1 ∧ (1 : Manager) ≠ 2) ∧
    (gate.lease.state = .held ∧ gate.lease.holder = some (ask 0 0 []).manager ∧
      ({ ask 0 0 [] with epoch := 0 } : Request).epoch ≠ gate.lease.epoch) := by
  refine ⟨by decide +kernel, .inr (.inl ⟨rfl, .map, rfl, rfl, by decide, by decide⟩), .inr (.inr (.inl ⟨rfl, .inr (by decide)⟩)),
    .inr (.inr (.inr ⟨rfl, by decide⟩)), .inl ⟨rfl, .status, rfl, by decide⟩,
    ⟨by decide +kernel, .inr (.inr (.inl ⟨rfl, .inr (by decide)⟩)), rfl⟩,
    ⟨by decide +kernel, .inr (.inr (.inl ⟨rfl, .inl (by decide)⟩)), rfl, by decide⟩, rfl, rfl, by decide⟩

theorem witness_ReadReturnsTheEntries :
    gate.taken (ask 4080 16 []) ∧ (ask 4080 16 []).within .map ∧ (ask 251 5 []).within .recordStatus ∧ (ask 0 2 []).within .bankLength ∧
    gate.taken (toAll (ask 0 1 [])) ∧ (ask 0 1 []).within .ident := by decide +kernel

/-! #### Laws on the gate -/

@[simp] theorem gate_record (r : RecordIndex) : gate.record r = Record.unused := by
  simp [State.record, gate, State.cleared]

@[simp] theorem gate_mapEntry (id : StreamId) : gate.mapEntry id = .pass := by simp [State.mapEntry, gate, State.cleared]

@[simp] theorem gate_line (i : BitVec 3) : gate.line i = Line.reset := by simp [State.line, gate, State.cleared]

theorem gate_binding : BindingLaw gate := by simp [BindingLaw, Record.unused]

theorem gate_pool : PoolLaw gate := by
  refine ⟨by decide +kernel, by decide +kernel, fun r => ?_⟩
  rw [gate_record]
  decide

/-- The gate with a command waiting. -/
def waiting (c : Instr) : State := { gate with pending := [c] }

theorem waiting_steps (c : Instr) : ∃ t, step (waiting c) = .next t := by
  cases c <;> exact ⟨_, rfl⟩

theorem witness_WriteMapBindsAndUnbinds :
    gate.allowedAlone (ask 4095 1 [0xC0, 0]) ∧ (ask 4095 1 [0xC0, 0]).within .map ∧ BindingLaw gate ∧
    firstRefused (gate.mapJudgement (ask 4094 2 [0x40, 0, 0xC0, 0])) 2 1 .badValue ∧
    firstRefused (gate.mapJudgement (ask 4095 1 [0x80, 255])) 1 0 .badValue ∧
    (∀ j < 2, gate.mapJudgement (ask 4094 2 [0x40, 0, 0, 0]) j = none ∧
      MapEntry.ofWord (dataWord (ask 4094 2 [0x40, 0, 0, 0]).data (2 * j)) = some (if j = 0 then .drop else .pass)) := by
  refine ⟨by decide +kernel, by decide +kernel, gate_binding, ?_, ?_, by decide +kernel⟩ <;> (unfold firstRefused; decide +kernel)

theorem witness_WriteRecordConfigAllocates :
    gate.allowedAlone (ask 255 1 [0, 32, 0, 0, 3, 31]) ∧ (ask 255 1 [0, 32, 0, 0, 3, 31]).within .recordConfig ∧
    firstRefused (gate.configJudgement (ask 255 1 [0, 33, 0, 0, 3, 0])) 1 0 .badValue ∧
    firstRefused ((withRecord 255 .running).configJudgement (ask 254 2 [0, 1, 0, 0, 3, 0])) 2 1 .wrongState ∧
    (∀ j < 1, gate.configJudgement (ask 255 1 [0, 32, 0, 0, 3, 31]) j = none ∧
      RecordConfig.ofData (ask 255 1 [0, 32, 0, 0, 3, 31]).data (6 * j) =
        some { RecordConfig.default with depthLimit := 32, faultThreshold := 3, retag := 31 }) := by
  refine ⟨by decide +kernel, by decide +kernel, ?_, ?_, by decide +kernel⟩ <;> (unfold firstRefused; decide +kernel)

theorem witness_ShadowWrites :
    gate.allowedAlone (ask 1008 16 []) ∧ (ask 1008 16 []).first ≠ 0 ∧ gate.banks.condition = .free ∧
    ((ask 1008 16 []).within .shadowSlot ∧ (ask 1 1 [0, 8]).within .bankLength) ∧
    firstRefused (slotJudgement (ask 1023 1 [3, 0])) 1 0 .badValue ∧
    (∀ j < 2, SlotEntry.ofWord (dataWord (ask 1022 2 [1, 0, 2, 255]).data (2 * j)) = some (if j = 0 then .openSlot else .stream 255)) ∧
    ((dataWord (ask 1 1 [0, 8]).data 0).toNat = 8 ∧ (dataWord (ask 1 1 [4, 0]).data 0).toNat = 1024 ∧
      (dataWord (ask 1 1 [0, 7]).data 0).toNat = 7 ∧ (dataWord (ask 1 1 [4, 1]).data 0).toNat = 1025) := by
  refine ⟨by decide +kernel, by decide +kernel, by decide +kernel, by decide +kernel, ?_, by decide +kernel, by decide +kernel⟩
  unfold firstRefused; decide +kernel

theorem witness_WriteLineSetsLines :
    gate.allowedAlone (ask 7 1 [0xFF, 0xFF, 1, 63, 1, 1]) ∧ (ask 5 3 []).within .line ∧
    firstRefused (gate.lineJudgement (ask 7 1 [0, 255])) 1 0 .badValue ∧
    firstRefused (gate.lineJudgement (ask 7 1 [0xFF, 0xFF, 1, 64])) 1 0 .badValue ∧
    (∀ j < 1, gate.lineJudgement (ask 7 1 [0xFF, 0xFF, 1, 63, 1, 1]) j = none ∧
      LineConfig.ofData (ask 7 1 [0xFF, 0xFF, 1, 63, 1, 1]).data (9 * j) =
        some { source := none, bitIndex := 319, polarity := .inverted, safeLevel := .high }) := by
  refine ⟨by decide +kernel, by decide +kernel, ?_, ?_, by decide +kernel⟩ <;> (unfold firstRefused; decide +kernel)

theorem witness_WriteSettingsTakesEveryField :
    let octets : List Octet := [0, 64, 1, 15, 255, 0, 16, 0, 4, 1, 0, 0, 1, 1, 1]
    gate.allowedAlone (ask 0 1 octets) ∧ (ask 0 1 octets).within .settings ∧
    Settings.ofData (packData []) = none ∧
    (Settings.ofData (ask 0 1 octets).data).map (·.latency) = some 4095 ∧
    (Settings.ofData (ask 0 1 octets).data).map (·.source) = some .line ∧
    (8 ≤ (withPlans (plan .quiet) .reset .free).banks.active.length ∧ (withPlans (plan .quiet) .reset .free).banks.active.length ≤ 1024 ∧
      (withPlans (plan .quiet) .reset .free).banks.active.length * 512 ≤ 4095 + 16) ∧
    gate.banks.active.length = 0 ∧ gate.banks.condition = .free := by decide +kernel

theorem witness_FillStartPauseResume :
    ∀ state ∈ [RecordState.idle, .filling, .faulted, .running, .paused],
      (withRecord 255 state).allowedRecord (ask 255 1 []) ∧ (withRecord 255 state).allowedRecord (toAll (ask 255 1 [])) ∧
      ((withRecord 255 state).record (ask 255 1 []).record).state = state := by decide +kernel

theorem witness_StopFlushesTheRecord :
    (boundGate (queued 4 4 .dropNew)).allowedRecord (ask 255 1 []) ∧
    ((boundGate (queued 4 4 .dropNew)).record (ask 255 1 []).record).state ≠ .unused ∧
    ((boundGate (queued 4 4 .dropNew)).record (ask 255 1 []).record).state ≠ .idle := by decide +kernel

theorem witness_ReleaseUnallocatesTheRecord :
    let named := fun active shadow condition =>
      ({ withPlans active shadow condition with records := (withRecord 255 .idle).records } : State)
    (named .reset .reset .free).allowedRecord (ask 255 1 []) ∧
    ((named .reset .reset .free).record (ask 255 1 []).record).state = .idle ∧
    (plan (.stream 255)).isFirst (fun e => e = .stream 255) 3 ∧ (plan .openSlot).hasNone (fun e => e = .stream 255) ∧
    (named (plan .openSlot) (plan (.stream 255)) (.swapPending .nextBoundary)).banks.condition = .swapPending .nextBoundary := by
  refine ⟨by decide +kernel, by decide +kernel, ?_, ?_, rfl⟩
  · unfold Bank.isFirst; decide +kernel
  · unfold Bank.hasNone; decide +kernel

theorem witness_CountersAreCleared :
    (withRecord 255 .running).allowedRecord (ask 255 1 []) ∧ ((withRecord 255 .running).record 255).state ≠ .unused ∧
    gate.allowedRecord (ask 255 1 []) ∧ (gate.record 255).state = .unused ∧ gate.allowed (ask 0 0 []) ∧
    gate.allowed (toAll (ask 0 0 [])) := by decide +kernel

theorem witness_RecordCommandsThatChangeNothing :
    ∀ state ∈ [RecordState.unused, .idle, .filling, .starting, .running, .paused, .faulted],
      (withRecord 0 state).allowedRecord (ask 0 1 []) ∧ ((withRecord 0 state).record (ask 0 1 []).record).state = state := by
  decide +kernel

/-- A copy in flight between two banks at reset keeps the plan law. -/
theorem copying_plan (done : Nat) (h : done < 64) : PlanLaw (withPlans .reset .reset (.copying 0 done)) := by
  have quiet : Bank.reset.entry 0 = .quiet := by decide +kernel
  refine ⟨⟨Or.inl rfl, quiet⟩, ⟨Or.inl rfl, quiet⟩, fun k r _ hk => ?_, fun _ hl => absurd rfl hl, fun target ht => ?_,
    fun a d hc => ?_⟩
  · exact absurd hk (Nat.not_lt_zero k)
  · cases ht
  · cases hc; exact ⟨h, rfl, fun k _ => rfl⟩

theorem witness_CopyMakesTheImage :
    gate.allowed (ask 0 0 []) ∧ gate.banks.condition = .free ∧ gate.pinHeld = false ∧
    (withPlans .reset .reset (.copying 0 0)).banks.condition = .copying 0 0 ∧
    (withPlans .reset .reset (.copying 0 62)).banks.condition = .copying 0 62 ∧ 62 < 63 ∧
    (withPlans .reset .reset (.copying 0 63)).banks.condition = .copying 0 63 ∧
    PlanLaw (withPlans .reset .reset (.copying 0 63)) :=
  ⟨by decide +kernel, rfl, rfl, rfl, rfl, by decide, rfl, copying_plan 63 (by decide)⟩

theorem witness_SwapsAreValidated :
    let unused : SlotEntry → Prop := fun e => ∃ r, e = .stream r ∧ (gate.record r).state = .unused
    gate.allowed (ask 0 0 []) ∧ gate.banks.condition = .free ∧ ¬(8 ≤ gate.banks.shadow.length ∧ gate.banks.shadow.length ≤ 1024) ∧
    (8 ≤ (plan .openSlot).length ∧ (plan .openSlot).length ≤ 1024 ∧
      gate.settings.latency + gate.settings.window < (plan .openSlot).length * 512) ∧
    ¬(4080 + 16 < (plan .openSlot).length * 512) ∧ 4079 + 16 < (plan .openSlot).length * 512 ∧
    (plan (.stream 255)).isFirst unused 3 ∧ (plan .openSlot).hasNone unused := by
  refine ⟨by decide +kernel, by decide +kernel, by decide +kernel, by decide +kernel, by decide +kernel, by decide +kernel, ?_, ?_⟩
  · have other : ∀ j < 3, (plan (.stream 255)).entry j = .quiet := by decide +kernel
    exact ⟨by decide, by decide +kernel, ⟨255, by decide +kernel, by rw [gate_record]; rfl⟩, fun j hj _ ⟨r, h, _⟩ => by
      rw [other j hj] at h; cases h⟩
  · have other : ∀ k < 8, (plan .openSlot).entry k = .quiet ∨ (plan .openSlot).entry k = .openSlot := by decide +kernel
    intro k hk _ ⟨r, h, _⟩
    rcases other k (by simpa [plan, Bank.setEntry, Bank.reset] using hk) with e | e <;> rw [e] at h <;> cases h

theorem witness_ShadowConditionGuardsTheShadow :
    (withPlans .reset .reset (.copying 0 0)).allowed (ask 1 1 []) ∧
    (withPlans .reset .reset (.copying 0 0)).banks.condition = .copying 0 0 ∧
    (withPlans .reset .reset (.swapPending .nextBoundary)).allowed (ask 1023 1 []) ∧
    (withPlans .reset .reset (.swapPending .nextBoundary)).banks.condition = .swapPending .nextBoundary ∧
    ((ask 1 1 []).dest ≠ 127#7 ∧ (ask 1 1 []).first ≠ 0 ∧ (ask 1023 1 []).within .shadowSlot ∧ (ask 1 1 []).within .bankLength) ∧
    gate.allowed (toAll (ask 0 0 [])) ∧ gate.banks.condition = .free := by decide +kernel

theorem witness_RestartLockRestarts :
    gate.allowed (ask 0 0 []) ∧ gate.allowed (toAll (ask 0 0 [])) ∧ gate.settings.source = .line ∧ localGate.allowed (ask 0 0 []) ∧
    localGate.settings.source = .loc := by decide +kernel

theorem witness_ResetSoftKeepsConfiguration : gate.allowedAlone (ask 0 0 []) ∧ PoolLaw gate := ⟨by decide +kernel, gate_pool⟩

theorem witness_ResetFullRestarts : gate.allowedAlone (ask 0 0 []) := by decide +kernel

theorem witness_AcquireAndClaim :
    let claimed : State := { gate with lease := { gate.lease with claimant := some 3 } }
    freeGate.taken (ask 0 0 []) ∧ (ask 0 0 []).dest ≠ 127#7 ∧ freeGate.lease.state = .free ∧
    (gate.taken (ask 0 0 []) ∧ gate.lease.state = .held ∧ gate.lease.holder = some (ask 0 0 []).manager) ∧
    (∀ m ∈ [(0 : Manager), 2, 3], gate.taken { ask 0 0 [] with manager := m } ∧ (1 : Manager) ≠ m) ∧
    (gate.lease.claimant = none ∧ gate.lease.countdown = some 200) ∧
    (claimed.lease.claimant = some 3 ∧ (3 : Manager) ≠ 0) := by decide +kernel

theorem witness_RenewAndRelease :
    gate.taken (ask 0 0 []) ∧ (ask 0 0 []).dest ≠ 127#7 ∧ gate.lease.state = .held ∧ gate.lease.holder = some (ask 0 0 []).manager ∧
    (ask 0 0 []).epoch = gate.lease.epoch ∧ (freeGate.taken (ask 0 0 []) ∧ freeGate.lease.state = .free) ∧
    (gate.taken { ask 0 0 [] with manager := 0 } ∧ (1 : Manager) ≠ 0) ∧
    (gate.taken { ask 0 0 [] with epoch := 0 } ∧ (0 : Word16) ≠ gate.lease.epoch) := by decide +kernel

theorem witness_UnitStepsAndExpiry :
    ∀ n ∈ [1, 2, 255],
      let s : State := { gate with lease := { gate.lease with countdown := some n } }
      s.pinHeld = false ∧ s.lease.state = .held ∧ s.lease.holder = some 1 ∧ s.lease.countdown = some n := by decide +kernel

/-! #### Slots, boundaries and cell times -/

theorem witness_BoundaryBeginsTheCycle :
    let runs : State := { withPlans (plan .quiet) .reset .free with
      lock := localGate.lock, settings := localGate.settings, timer := { gate.timer with position := .guard } }
    let halted : State := { gate with timer := { gate.timer with position := .guard } }
    runs.pinHeld = false ∧ runs.timer.position = .guard ∧ runs.turns.mayStart ∧ halted.timer.position = .guard ∧
    ¬halted.turns.mayStart := by decide +kernel

theorem witness_SlotsWithoutJudgement :
    (∀ k ∈ [0, 6], (inSlot k 8 .quiet).pinHeld = false ∧ (inSlot k 8 .quiet).timer.position = .slot k ∧
      (inSlot k 8 .quiet).timer.runs (k + 1)) ∧
    ({ inSlot 2 8 .quiet with engine := .halted } : State).engine = .halted ∧ (inSlot 2 8 .openSlot).engine = .running ∧
    (inSlot 2 8 .openSlot).banks.active.entry 3 = .openSlot ∧ (inSlot 2 8 .quiet).banks.active.entry 3 = .quiet ∧
    ∀ state ∈ [RecordState.idle, .filling, .starting, .paused, .faulted],
      let s := (inSlot 2 8 (.stream 255)).setRecord 255 (recordIn state)
      s.banks.active.entry 3 = .stream 255 ∧ (s.record 255).state = state := by decide +kernel

theorem witness_JudgedSlots :
    let s := fun x => (inSlot 2 8 (.stream 255)).setRecord 255 x
    let x : Record := { recordIn .running with config := { RecordConfig.default with faultThreshold := 1 },
                                               queue := [dataCell 700 63 0, dataCell 700 0 7] }
    (s x).pinHeld = false ∧ (s x).timer.position = .slot 2 ∧ (s x).timer.runs 3 ∧ (s x).engine = .running ∧
    (s x).banks.active.entry 3 = .stream 255 ∧ ((s x).record 255).state = .running ∧
    (((s x).purged ((s x).record 255)).1.queue = dataCell 700 0 7 :: [] ∧ (s x).distance (dataCell 700 0 7) = 0) ∧
    (let y : Record := { x with queue := [dataCell 700 32 0] }
     (∀ c ∈ ((s y).purged ((s y).record 255)).1.queue.head?, (s y).distance c ≠ 0) ∧
     y.config.faultThreshold ≠ 0 ∧ ((s y).purged ((s y).record 255)).1.missesSlot.misses = y.config.faultThreshold) ∧
    (let z : Record := { x with queue := [], config := RecordConfig.default }
     (∀ c ∈ ((s z).purged ((s z).record 255)).1.queue.head?, (s z).distance c ≠ 0) ∧ z.config.faultThreshold = 0) := by
  decide +kernel

theorem witness_GuardEndsTheLastSlot :
    (inSlot 7 8 .quiet).pinHeld = false ∧ (inSlot 7 8 .quiet).timer.position = .slot 7 ∧ ¬(inSlot 7 8 .quiet).timer.runs (7 + 1) ∧
    (let cut : State := { inSlot 2 8 .quiet with timer := { (inSlot 2 8 .quiet).timer with placement := some 2047 } }
     cut.timer.position = .slot 2 ∧ ¬cut.timer.runs (2 + 1)) ∧
    (let staged : State := { inSlot 7 8 .quiet with
       lines := (gate.lines.set 0 (lineIn .safe (some .low))).set 7 (lineIn .safe none) }
     (staged.lines[0]).staged = some .low ∧ (staged.lines[7]).staged = none) := by decide +kernel

theorem witness_CellTimesCarryTheChosenCell :
    let entry : EventEntry := { kind := .copyDone, object := none, argument := none, firstCycle := 0, repeats := 1 }
    let marking : State := { localGate with settings := { localGate.settings with mark := true } }
    (gate.pinHeld = false ∧ gate.timer.position = .slot 0 ∧ gate.uBegun ≤ 0) ∧
    (let begun : State := { inSlot 6 8 .quiet with uBegun := 7 }
     begun.pinHeld = false ∧ begun.timer.position = .slot 6 ∧ 6 < begun.uBegun) ∧
    ({ gate with timer := { gate.timer with position := .guard } } : State).timer.position = .guard ∧
    (marking.settings.source = .loc ∧ marking.settings.mark = true) ∧
    (gate.through = [] ∧ gate.replies = [] ∧ gate.events = []) ∧
    (let busy : State := { gate with through := [idleCell], replies := [oldReply], events := [entry], lastWinner := .own }
     busy.through = idleCell :: [] ∧ busy.lastWinner = .own) ∧
    (let busy : State := { gate with through := [idleCell], replies := [oldReply], lastWinner := .through }
     busy.replies = oldReply :: [] ∧ busy.lastWinner = .through) ∧
    (let busy : State := { gate with events := [entry] }
     busy.replies = [] ∧ busy.events ≠ [] ∧ busy.through = []) := by decide +kernel

/-! #### The laws -/

theorem witness_EveryBufferIsAccountedFor : PoolLaw (waiting .slotStart) ∧ ∃ t, step (waiting .slotStart) = .next t := by
  refine ⟨⟨by decide +kernel, by decide +kernel, fun r => ?_⟩, waiting_steps _⟩
  rw [show (waiting .slotStart).record r = Record.unused from gate_record r]
  decide

theorem witness_QueuesKeepTheirSizes :
    QueueLaw (waiting (.fill 0 (ask 0 1 []))) ∧ ∃ t, step (waiting (.fill 0 (ask 0 1 []))) = .next t :=
  ⟨⟨by decide, by decide, by decide, by decide, by decide, by decide, fun m r h => by
    simp [State.cached, waiting, gate, State.cleared] at h⟩, waiting_steps _⟩

theorem witness_SettingsAndLeaseKeepTheirLaws :
    SettingsLaw (waiting .leaseUnitStep) ∧ LeaseLaw (waiting .leaseUnitStep) ∧ ∃ t, step (waiting .leaseUnitStep) = .next t := by
  refine ⟨by unfold SettingsLaw; decide +kernel, ⟨by decide, by decide, by decide, fun m h => ?_, fun n h => ?_⟩, waiting_steps _⟩
  · cases h
  · cases h; decide

theorem witness_DrivenLinesHaveARunningSource : LineLaw (waiting .guardStart) ∧ ∃ t, step (waiting .guardStart) = .next t := by
  refine ⟨fun i => ?_, waiting_steps _⟩
  rw [show (waiting .guardStart).line i = Line.reset from gate_line i]
  exact ⟨by decide, by decide, by decide, fun r h => by cases h⟩

theorem witness_MapAndRecordsAgree :
    BindingLaw (waiting (.release 0 (ask 0 1 []))) ∧ ∃ t, step (waiting (.release 0 (ask 0 1 []))) = .next t :=
  ⟨gate_binding, waiting_steps _⟩

theorem witness_PlansNameRecordsInUse : PlanLaw (waiting (.copy 0 (ask 0 0 []))) ∧ ∃ t, step (waiting (.copy 0 (ask 0 0 []))) = .next t := by
  refine ⟨⟨⟨by decide, by decide +kernel⟩, ⟨by decide, by decide +kernel⟩, fun k r _ h => ?_, fun _ h => absurd rfl h, fun target h => ?_,
    fun a d h => ?_⟩, waiting_steps _⟩
  · simp [waiting, gate, State.cleared, Bank.reset] at h
  · cases h
  · cases h

theorem witness_EngineRunsOnlyInLock :
    LockLaw (waiting (.syncArrival 0 5)) ∧ EngineLaw (waiting (.syncArrival 0 5)) ∧ ∃ t, step (waiting (.syncArrival 0 5)) = .next t := by
  refine ⟨by unfold LockLaw; decide +kernel, by unfold EngineLaw; decide +kernel, waiting_steps _⟩

theorem witness_CyclesKeepTheirShape :
    SettingsLaw (waiting .cellTimeStart) ∧ TimerLaw (waiting .cellTimeStart) ∧ ∃ t, step (waiting .cellTimeStart) = .next t := by
  refine ⟨by unfold SettingsLaw; decide +kernel, ⟨by decide, by decide, by decide, by decide, by decide, fun v h => ?_, by decide, fun k h => ?_,
    by decide⟩, waiting_steps _⟩
  · cases h
  · cases h; decide

end Sys2Proof.Tests
end

section
/-! What a carried request depends on, and the soft reset (R38, R54, R75, R111, R172). -/

namespace Sys2Proof.Machine

/-! ### What a carried request depends on -/

/-- The agent part of a carried request acts on one state only, the one its cell was heard in. -/
theorem State.carried_congr {s : State} {dt : Nat} {op : BitVec 4} {code : Octet} {q : Request} {f g : State → State}
    (h : f (s.heard dt .uIn) = g (s.heard dt .uIn)) : s.carried dt op code q f = s.carried dt op code q g := by
  simp only [State.carried, h]

@[simp] theorem State.heard_inFlight (s : State) (dt : Nat) (side : Side) : (s.heard dt side).inFlight = s.inFlight := by
  simp [State.inFlight]

theorem PoolLaw.heard {s : State} (law : PoolLaw s) (dt : Nat) (side : Side) : PoolLaw (s.heard dt side) := by
  simpa [PoolLaw, State.queued] using law

theorem BindingLaw.heard {s : State} (law : BindingLaw s) (dt : Nat) (side : Side) : BindingLaw (s.heard dt side) := by
  simpa [BindingLaw] using law

@[simp] theorem State.heard_mapJudgement (s : State) (dt : Nat) (side : Side) (q : Request) (j : Nat) :
    (s.heard dt side).mapJudgement q j = s.mapJudgement q j := by
  simp only [State.mapJudgement, State.heard_record]

@[simp] theorem State.heard_configJudgement (s : State) (dt : Nat) (side : Side) (q : Request) (j : Nat) :
    (s.heard dt side).configJudgement q j = s.configJudgement q j := by
  simp only [State.configJudgement, State.heard_record]

/-- The answer of a write that was applied (R166). -/
theorem Answer.ofChange_eq (changed : Bool) : Answer.ofChange changed = .plain (if changed then .ok else .noChange) 0 := by
  cases changed <;> rfl

/-! ### The soft reset -/

theorem mapAll_mapAll {α β γ : Type} {n : Nat} (g : β → γ) (f : α → β) (v : Vector α n) :
    mapAll g (mapAll f v) = mapAll (fun a => g (f a)) v := by
  ext i h; simp

theorem Line.halt_eq : Line.halt = Line.madeSafe := rfl

theorem Line.madeSafe_madeSafe (l : Line) : l.madeSafe.madeSafe = l.madeSafe := by
  unfold Line.madeSafe; split <;> simp_all

/-- A halt followed by the soft reset's own clearing of the lines: HALTED, and every line with a source SAFE (R79, R111). -/
theorem State.haltEngine_eachLine_halt (s : State) :
    s.haltEngine.eachLine Line.halt = { s with engine := .halted, lines := mapAll Line.madeSafe s.lines } := by
  cases h : s.engine with
  | halted => simp [State.haltEngine, State.eachLine, Line.halt_eq, h]
  | running => simp [State.haltEngine, State.eachLine, Line.halt_eq, h, mapAll_mapAll, Line.madeSafe_madeSafe]

theorem Record.softReset_eq (x : Record) :
    x.softReset = if x.state = .unused then x else { x with queue := [], lastValue := none, misses := 0, state := .idle } := by
  unfold Record.softReset
  cases h : x.state <;> simp

/-- A record's whole queue is freed: an UNUSED record has none (R38, R40). -/
theorem Record.flushable_eq {x : Record} (empty : x.state = .unused → x.queue = []) : x.flushable = x.queue.length := by
  unfold Record.flushable
  cases h : x.state <;> simp [empty, h]

/-- Under the pool law the flush frees every buffer but that of the cell in flight on D-out (R54). -/
theorem State.softFlush_free {s : State} (law : PoolLaw s) : s.softFlush.free = 384 - s.inFlight := by
  obtain ⟨total, -, records⟩ := law
  have freed : (s.records.toArray.toList.map Record.flushable).sum = s.queued := by
    unfold State.queued
    refine congrArg List.sum (List.map_congr_left fun x hx => Record.flushable_eq fun unused => ?_)
    obtain ⟨i, hi, rfl⟩ := List.getElem_of_mem hx
    have hi : i < 256 := by simpa using hi
    obtain ⟨-, -, -, empty⟩ := records (BitVec.ofNat 8 i)
    simp only [State.record, BitVec.toNat_ofNat, Nat.mod_eq_of_lt (show i < 2 ^ 8 from hi)] at empty
    exact empty (.inl unused)
  show s.free + (s.records.toArray.toList.map Record.flushable).sum + s.passQueue.length = _
  omega

theorem State.softFlush_eq {s : State} (law : PoolLaw s) :
    s.softFlush = { s with free := 384 - s.inFlight, passQueue := [], records := mapAll Record.softReset s.records } := by
  rw [← State.softFlush_free law]; rfl

/-- RESET_SOFT up to its reply, as R172 says. -/
theorem State.softReset_eq {s : State} (law : PoolLaw s) :
    s.softReset = ({ s with
      records := mapAll Record.softReset s.records
      free := 384 - s.inFlight
      passQueue := [], through := [], replies := [], events := [], lost := false, lastWinner := .own
      cache := Vector.replicate 4 none
      engine := .halted
      lines := mapAll Line.madeSafe s.lines
      banks := s.banks.softReset } : State).relocks := by
  rw [State.softReset, State.haltEngine_eachLine_halt, State.softFlush_eq law, State.restartLock_eq]
  rfl

theorem Banks.softReset_eq (b : Banks) :
    b.softReset = match b.condition with
      | .copying _ _ => { b with condition := .free, shadow := { b.shadow with length := 0 } }
      | .swapPending _ => { b with condition := .free }
      | .free => b := by
  unfold Banks.softReset
  cases b.condition <;> rfl

/-- Settles O42: the flush, the halt and the lock restart each by its own rule. -/
theorem resetSoftKeepsConfiguration : Obligations.ResetSoftKeepsConfiguration := by
  intro s dt q allowed law banks
  have hb : s.banks.softReset = banks := Banks.softReset_eq s.banks
  obtain ⟨taken, permitted, unicast⟩ := allowed
  have run : exec (.resetSoft dt q) s = .next (s.requestArrival dt .resetSoft q s.straps) := rfl
  rw [run, s.command_eq dt .resetSoft q s.straps rfl ⟨taken, permitted⟩ (.inr unicast)]
  refine congrArg Host.Outcome.next (State.carried_congr ?_)
  simp only [State.execute, State.softReset_eq (law.heard dt .uIn), mapAll_congr Record.softReset_eq,
    State.heard_records, State.heard_inFlight, State.heard_lines, State.heard_banks, hb]
  rfl

end Sys2Proof.Machine
end

section
/-! The Stream Map and the Stream Table (02): MAP writes (R17, R18) and RECORD_CONFIG writes (R20). -/

namespace Sys2Proof

/-! ### The indices of a request within a class -/

theorem Request.index_lt {q : Request} {cls : ItemClass} (h : q.within cls) {j : Nat} (hj : j < q.count.toNat) :
    q.index j < cls.size :=
  Nat.lt_of_lt_of_le (Nat.add_lt_add_left hj _) h.2.2

/-- A value is the index of entry `j` exactly when it is that number, where the index fits the width. -/
theorem Request.eq_index_iff {w : Nat} (q : Request) {j : Nat} (fits : q.first.toNat + j < 2 ^ w) (x : BitVec w) :
    x = BitVec.ofNat w (q.index j) ↔ x.toNat = q.first.toNat + j := by
  rw [← BitVec.toNat_inj, BitVec.toNat_ofNat, Nat.mod_eq_of_lt fits]

/-- The index of entry `j` as the model counts it, in 16 bits. -/
theorem Request.index_setWidth (q : Request) (j : Nat) {w : Nat} (hw : w ≤ 16) :
    (q.first + BitVec.ofNat 16 j).setWidth w = BitVec.ofNat w (q.index j) := by
  apply BitVec.eq_of_toNat_eq
  have dvd : 2 ^ w ∣ 2 ^ 16 := Nat.pow_dvd_pow 2 hw
  rw [BitVec.toNat_setWidth, BitVec.toNat_add, BitVec.toNat_ofNat, BitVec.toNat_ofNat, Nat.mod_mod_of_dvd _ dvd]
  exact Nat.ModEq.add_left _ (Nat.mod_mod_of_dvd j dvd)

end Sys2Proof

namespace Sys2Proof.Machine

/-- An index that fits a narrower width, told in a reply's detail. -/
theorem ofNat_setWidth_of_lt {w n : Nat} (h : n < 2 ^ w) : (BitVec.ofNat w n).setWidth 16 = BitVec.ofNat 16 n := by
  apply BitVec.eq_of_toNat_eq
  simp [Nat.mod_eq_of_lt h]

/-! ### The first refused entry -/

/-- A search for a refusal ends at the first refused entry. -/
theorem findSome?_range_of_firstRefused {α : Type} {judge : Nat → Option Status} {n j : Nat} {status : Status}
    (h : firstRefused judge n j status) (found : Nat → Status → α) :
    (List.range n).findSome? (fun i => (judge i).map (found i)) = some (found j status) := by
  obtain ⟨hj, refused, before⟩ := h
  rw [List.findSome?_eq_some_iff]
  refine ⟨List.range j, j, (List.range (n - j - 1)).map (j + 1 + ·), ?_, by simp [refused], fun i hi => ?_⟩
  · conv_lhs => rw [show n = j + 1 + (n - j - 1) by omega, List.range_add, List.range_succ]
    simp
  · simp [before i (List.mem_range.mp hi)]

/-- A search for a refusal finds none when no entry is refused. -/
theorem findSome?_range_of_passed {α : Type} {judge : Nat → Option Status} {n : Nat} (h : ∀ j < n, judge j = none)
    (found : Nat → Status → α) : (List.range n).findSome? (fun i => (judge i).map (found i)) = none := by
  simpa [List.findSome?_eq_none_iff] using h

/-! ### MAP writes: the check (R17) -/

theorem mapWrites_eq (q : Request) :
    mapWrites q = (List.range q.count.toNat).map fun j => (BitVec.ofNat 12 (q.index j), dataWord q.data (2 * j)) := by
  simp only [mapWrites, Request.index_setWidth q _ (show 12 ≤ 16 by omega)]

/-- The records in `seen` are those that the entries before entry `j` name. -/
def seenBefore (q : Request) (j : Nat) (seen : List RecordIndex) : Prop :=
  ∀ r, r ∈ seen ↔ ∃ i < j, MapEntry.ofWord (dataWord q.data (2 * i)) = some (.bound r)

/-- The model's check of one entry is the rule's. -/
theorem State.mapJudgement_of_seenBefore (s : State) {q : Request} {j : Nat} {seen : List RecordIndex}
    (hseen : seenBefore q j seen) :
    s.mapJudgement q j = match MapEntry.ofWord (dataWord q.data (2 * j)) with
      | none => some .badValue
      | some e => s.mapRefusal (BitVec.ofNat 12 (q.index j)) e seen := by
  unfold State.mapJudgement
  cases MapEntry.ofWord (dataWord q.data (2 * j)) with
  | none => rfl
  | some e =>
    cases e with
    | pass => rfl
    | drop => rfl
    | bound r => simp only [State.mapRefusal, List.contains_iff_mem, hseen r]

theorem seenBefore_noteIn {q : Request} {j : Nat} {seen : List RecordIndex} {e : MapEntry} (hseen : seenBefore q j seen)
    (he : MapEntry.ofWord (dataWord q.data (2 * j)) = some e) : seenBefore q (j + 1) (e.noteIn seen) := by
  intro r
  simp only [Nat.exists_lt_succ_right, he, Option.some.injEq, ← hseen r]
  cases e <;> simp [MapEntry.noteIn, or_comm, eq_comm]

/-- From entry `j` on, the check finds the first refused entry, with its status and identifier. -/
theorem State.mapCheck_from (s : State) (q : Request) (n : Nat) {j : Nat} {seen : List RecordIndex} (hseen : seenBefore q j seen) :
    s.mapCheck ((List.range' j n).map fun i => (BitVec.ofNat 12 (q.index i), dataWord q.data (2 * i))) seen =
      (List.range' j n).findSome? fun i => (s.mapJudgement q i).map fun status => (status, BitVec.ofNat 12 (q.index i)) := by
  induction n generalizing j seen with
  | zero => rfl
  | succ n ih =>
    rw [List.range'_succ, List.map_cons, List.findSome?_cons, s.mapJudgement_of_seenBefore hseen, State.mapCheck]
    cases he : MapEntry.ofWord (dataWord q.data (2 * j)) with
    | none => rfl
    | some e =>
      cases hr : s.mapRefusal (BitVec.ofNat 12 (q.index j)) e seen with
      | some status => simp only [hr, Option.map_some]
      | none => simpa only [hr, Option.map_none] using ih (seenBefore_noteIn hseen he)

theorem State.mapCheck_eq (s : State) (q : Request) :
    s.mapCheck (mapWrites q) [] = (List.range q.count.toNat).findSome? fun j =>
      (s.mapJudgement q j).map fun status => (status, BitVec.ofNat 12 (q.index j)) := by
  rw [mapWrites_eq, List.range_eq_range']
  exact s.mapCheck_from q _ (by simp [seenBefore])

/-- A map write with a refused entry changes nothing and answers for the first one (R17). -/
theorem State.doWriteMap_refused {s : State} {q : Request} {j : Nat} {status : Status} (within : q.within .map)
    (h : firstRefused (s.mapJudgement q) q.count.toNat j status) :
    s.doWriteMap q = (s, .plain status (BitVec.ofNat 16 (q.index j))) := by
  have index : q.index j < 2 ^ 12 := Request.index_lt within h.1
  simp only [State.doWriteMap, State.mapCheck_eq,
    findSome?_range_of_firstRefused h fun j status => (status, BitVec.ofNat 12 (q.index j)), ofNat_setWidth_of_lt index]

/-! ### MAP writes: the effect (R18) -/

/-- One entry changes the map and the records only. -/
theorem State.rebind_changes (s : State) (id : StreamId) (e : MapEntry) :
    s.rebind id e = { s with map := (s.rebind id e).map, records := (s.rebind id e).records } := by
  unfold State.rebind
  split
  · rfl
  · cases s.mapEntry id <;> cases e <;> rfl

theorem State.rebind_mapEntry (s : State) (id : StreamId) (e : MapEntry) (x : StreamId) :
    (s.rebind id e).mapEntry x = if x = id then e else s.mapEntry x := by
  unfold State.rebind
  split
  · grind
  · rw [State.mapEntry_setMapEntry]
    cases s.mapEntry id <;> cases e <;> rfl

theorem State.unbind_record (s : State) (r' r : RecordIndex) :
    (s.unbind r').record r = { s.record r with bound := if r' = r then none else (s.record r).bound } := by
  rw [State.unbind, State.record_setRecord]
  by_cases h : r' = r
  · simp [h]
  · simp [h, Ne.symm h]

theorem State.bind_record (s : State) (r' : RecordIndex) (id : StreamId) (r : RecordIndex) :
    (s.bind r' id).record r = { s.record r with bound := if r' = r then some id else (s.record r).bound } := by
  rw [State.bind, State.record_setRecord]
  by_cases h : r' = r
  · simp [h]
  · simp [h, Ne.symm h]

/-- One entry changes the binding of the record it binds and of the record it bound, and nothing else of a record (R18). -/
theorem State.rebind_record (s : State) (id : StreamId) (e : MapEntry) (r : RecordIndex) :
    (s.rebind id e).record r = { s.record r with
      bound := if s.mapEntry id = e then (s.record r).bound else if e = .bound r then some id
        else if s.mapEntry id = .bound r then none else (s.record r).bound } := by
  unfold State.rebind
  split
  · rfl
  · have unset (t : State) : (t.setMapEntry id e).record r = t.record r := State.record_congr rfl r
    rw [unset]
    cases s.mapEntry id <;> cases e <;> simp [State.unbind_record, State.bind_record]

/-- An entry that names a record names one in use that no other identifier is bound to (R17). -/
def State.admits (s : State) (id : StreamId) (e : MapEntry) : Prop :=
  ∀ r, e = .bound r → (s.record r).state ≠ .unused ∧ ((s.record r).bound = none ∨ (s.record r).bound = some id)

/-- One admitted entry keeps map and records in agreement. -/
theorem BindingLaw.rebind {s : State} {id : StreamId} {e : MapEntry} (law : BindingLaw s) (h : s.admits id e) :
    BindingLaw (s.rebind id e) := by
  obtain ⟨agree, unused⟩ := law
  refine ⟨fun x r => ?_, fun r hr => ?_⟩
  · have hx := agree x r
    have hid := agree id r
    have he := h r
    rw [State.rebind_mapEntry, State.rebind_record]
    grind
  · have he := h r
    rw [State.rebind_record] at hr ⊢
    have := unused r hr
    grind

/-- An entry that does not name the record of a later one does not stand in its way. -/
theorem State.admits.rebind {s : State} {id id' : StreamId} {e e' : MapEntry} (h : s.admits id' e')
    (other : ∀ r, e' = .bound r → e ≠ .bound r) : (s.rebind id e).admits id' e' := by
  intro r hr
  have named := h r hr
  have he := other r hr
  rw [State.rebind_record]
  grind

/-- The state after the first `k` entries of a map write, entry `j` taking the value `e j`. -/
def State.rebinds (s : State) (q : Request) (e : Nat → MapEntry) : Nat → State
  | 0 => s
  | k + 1 => (s.rebinds q e k).rebind (BitVec.ofNat 12 (q.index k)) (e k)

theorem State.applyMap_append (s : State) (xs ys : List (StreamId × Word16)) :
    s.applyMap (xs ++ ys) = (s.applyMap xs).applyMap ys := by
  induction xs generalizing s with
  | nil => rfl
  | cons x xs ih =>
    obtain ⟨id, w⟩ := x
    simp only [List.cons_append, State.applyMap]
    cases MapEntry.ofWord w <;> exact ih _

theorem State.applyMap_range (s : State) {q : Request} {e : Nat → MapEntry} {k : Nat}
    (named : ∀ j < k, MapEntry.ofWord (dataWord q.data (2 * j)) = some (e j)) :
    s.applyMap ((List.range k).map fun j => (BitVec.ofNat 12 (q.index j), dataWord q.data (2 * j))) = s.rebinds q e k := by
  induction k with
  | zero => rfl
  | succ k ih =>
    rw [List.range_succ, List.map_append, State.applyMap_append, ih fun j hj => named j (by omega)]
    simp [State.applyMap, named k, State.rebinds]

theorem State.rebinds_changes (s : State) (q : Request) (e : Nat → MapEntry) (k : Nat) :
    s.rebinds q e k = { s with map := (s.rebinds q e k).map, records := (s.rebinds q e k).records } := by
  induction k with
  | zero => rfl
  | succ k ih =>
    rw [State.rebinds, State.rebind_changes, ih]

/-- Each of the first `k` named entries has its value, and no other entry has changed. -/
theorem State.rebinds_mapEntry (s : State) {q : Request} (e : Nat → MapEntry) {k : Nat} (fits : q.first.toNat + k ≤ 4096)
    (x : StreamId) :
    (s.rebinds q e k).mapEntry x =
      if q.first.toNat ≤ x.toNat ∧ x.toNat < q.first.toNat + k then e (x.toNat - q.first.toNat) else s.mapEntry x := by
  induction k with
  | zero => rw [if_neg (by omega)]; rfl
  | succ k ih =>
    rw [State.rebinds, State.rebind_mapEntry, ih (by omega)]
    simp only [q.eq_index_iff (w := 12) (show q.first.toNat + k < 2 ^ 12 by omega)]
    grind

/-- Only the bindings of records change. -/
theorem State.rebinds_record (s : State) (q : Request) (e : Nat → MapEntry) (k : Nat) (r : RecordIndex) :
    (s.rebinds q e k).record r = { s.record r with bound := ((s.rebinds q e k).record r).bound } := by
  induction k with
  | zero => rfl
  | succ k ih =>
    rw [State.rebinds, State.rebind_record, ih]

/-- Every entry of a map write is admitted, and no record is named twice (R17). -/
structure State.AcceptsMap (s : State) (q : Request) (e : Nat → MapEntry) : Prop where
  admits : ∀ j < q.count.toNat, s.admits (BitVec.ofNat 12 (q.index j)) (e j)
  once : ∀ j < q.count.toNat, ∀ i < j, ∀ r, e j = .bound r → e i ≠ .bound r

/-- What the check of an entry that names a record has found when it passes (R17). -/
theorem State.of_mapJudgement_bound {s : State} {q : Request} {j : Nat} {r : RecordIndex}
    (value : MapEntry.ofWord (dataWord q.data (2 * j)) = some (.bound r)) (pass : s.mapJudgement q j = none) :
    (s.record r).state ≠ .unused ∧
      ((s.record r).bound = none ∨ (s.record r).bound = some (BitVec.ofNat 12 (q.index j))) ∧
      ¬∃ i < j, MapEntry.ofWord (dataWord q.data (2 * i)) = some (.bound r) := by
  simp only [State.mapJudgement, value] at pass
  split_ifs at pass with unused taken again
  exact ⟨unused, by tauto, again⟩

theorem State.acceptsMap_of_judgement {s : State} {q : Request} {e : Nat → MapEntry}
    (passed : ∀ j < q.count.toNat, s.mapJudgement q j = none ∧ MapEntry.ofWord (dataWord q.data (2 * j)) = some (e j)) :
    s.AcceptsMap q e := by
  refine ⟨fun j hj r hr => ?_, fun j hj i hi r hr named => ?_⟩
  · obtain ⟨pass, value⟩ := passed j hj
    obtain ⟨used, free, -⟩ := State.of_mapJudgement_bound (hr ▸ value) pass
    exact ⟨used, free⟩
  · obtain ⟨pass, value⟩ := passed j hj
    obtain ⟨-, -, once⟩ := State.of_mapJudgement_bound (hr ▸ value) pass
    exact once ⟨i, hi, named ▸ (passed i (by omega)).2⟩

/-- While the entries of a write are applied in turn, map and records agree and the entries still to come are admitted. -/
theorem State.AcceptsMap.rebinds {s : State} {q : Request} {e : Nat → MapEntry} (h : s.AcceptsMap q e) (law : BindingLaw s)
    {k : Nat} (hk : k ≤ q.count.toNat) :
    BindingLaw (s.rebinds q e k) ∧
      ∀ j < q.count.toNat, k ≤ j → (s.rebinds q e k).admits (BitVec.ofNat 12 (q.index j)) (e j) := by
  induction k with
  | zero => exact ⟨law, fun j hj _ => h.admits j hj⟩
  | succ k ih =>
    obtain ⟨agree, admits⟩ := ih (by omega)
    exact ⟨agree.rebind (admits k (by omega) (Nat.le_refl k)),
      fun j hj hkj => (admits j hj (by omega)).rebind fun r hr => h.once j hj k (by omega) r hr⟩

/-- Map and records agreeing before and after, the bindings after follow from the map after: the identifier that binds a
record, none for a record that lost its entry, and the old one otherwise (R18). -/
theorem State.AcceptsMap.rebinds_bound {s : State} {q : Request} {e : Nat → MapEntry} (h : s.AcceptsMap q e) (law : BindingLaw s)
    (fits : q.first.toNat + q.count.toNat ≤ 4096) (r : RecordIndex) :
    (∀ j < q.count.toNat, e j = .bound r →
      ((s.rebinds q e q.count.toNat).record r).bound = some (BitVec.ofNat 12 (q.index j))) ∧
    ((∀ j < q.count.toNat, e j ≠ .bound r) → ((s.rebinds q e q.count.toNat).record r).bound =
      if ∃ j < q.count.toNat, s.mapEntry (BitVec.ofNat 12 (q.index j)) = .bound r then none else (s.record r).bound) := by
  obtain ⟨⟨agree, -⟩, -⟩ := h.rebinds law (Nat.le_refl _)
  have after := fun id => agree id r
  simp only [s.rebinds_mapEntry e fits] at after
  have before := fun id => law.1 id r
  have place (j : Nat) (hj : j < q.count.toNat) : (BitVec.ofNat 12 (q.index j)).toNat = q.first.toNat + j :=
    (q.eq_index_iff (w := 12) (by omega) _).mp rfl
  refine ⟨fun j hj named => ?_, fun unnamed => ?_⟩
  · rw [← after, place j hj, if_pos (by omega), Nat.add_sub_cancel_left, named]
  · -- An identifier bound after the write was bound before it and is not written.
    have kept (id : StreamId) : ((s.rebinds q e q.count.toNat).record r).bound = some id ↔
        (s.record r).bound = some id ∧ ¬(q.first.toNat ≤ id.toNat ∧ id.toNat < q.first.toNat + q.count.toNat) := by
      rw [← after id, ← before id]
      by_cases written : q.first.toNat ≤ id.toNat ∧ id.toNat < q.first.toNat + q.count.toNat
      · simp [written, unnamed (id.toNat - q.first.toNat) (by omega)]
      · simp [written]
    ext id
    rw [kept id]
    split
    next lost =>
      obtain ⟨j, hj, named⟩ := lost
      have := place j hj
      rw [before] at named
      grind
    next stays =>
      refine ⟨fun h => h.1, fun h => ⟨h, fun written => stays ⟨id.toNat - q.first.toNat, by omega, ?_⟩⟩⟩
      rw [← (q.eq_index_iff (w := 12) (by omega) id).mpr (by omega), before, h]

/-- A map write without a refused entry is applied, and answers by whether an entry changed (R17, R18). -/
theorem State.doWriteMap_applied {s : State} {q : Request} {e : Nat → MapEntry}
    (passed : ∀ j < q.count.toNat, s.mapJudgement q j = none ∧ MapEntry.ofWord (dataWord q.data (2 * j)) = some (e j)) :
    s.doWriteMap q = (s.rebinds q e q.count.toNat,
      .plain (if ∃ j < q.count.toNat, e j ≠ s.mapEntry (BitVec.ofNat 12 (q.index j)) then .ok else .noChange) 0) := by
  have check := findSome?_range_of_passed (fun j hj => (passed j hj).1) fun j status => (status, BitVec.ofNat 12 (q.index j))
  have changed : ((List.range q.count.toNat).map fun j => (BitVec.ofNat 12 (q.index j), dataWord q.data (2 * j))).any
      (fun x => MapEntry.ofWord x.2 != some (s.mapEntry x.1)) = true ↔
      ∃ j < q.count.toNat, e j ≠ s.mapEntry (BitVec.ofNat 12 (q.index j)) := by
    simp only [List.any_map, List.any_eq_true, List.mem_range, Function.comp_apply, bne_iff_ne]
    exact exists_congr fun j => and_congr_right fun hj => by simp [(passed j hj).2]
  simp only [State.doWriteMap, State.mapCheck_eq, check]
  simp only [mapWrites_eq, s.applyMap_range fun j hj => (passed j hj).2, Answer.ofChange_eq, changed]

/-- Settles O28: the refusal is the first one that the check finds; after an applied write the law that map and records
agree, kept by every entry, fixes the bindings. -/
theorem writeMapBindsAndUnbinds : Obligations.WriteMapBindsAndUnbinds := by
  intro s dt q e allowed within law
  have run : exec (.writeMap dt q) s = .next (s.carried dt 1 0x4 q fun u =>
      (u.doWriteMap q).1.reply q (u.doWriteMap q).2) :=
    congrArg Host.Outcome.next (s.write_eq dt .map q s.straps allowed rfl within nofun)
  refine ⟨fun j status refused => ?_, fun passed => ?_⟩
  · refine run.trans (congrArg Host.Outcome.next (State.carried_congr ?_))
    rw [State.doWriteMap_refused within (by simpa only [funext (s.heard_mapJudgement dt .uIn q)] using refused)]
    rfl
  · have passed' : ∀ j < q.count.toNat, (s.heard dt .uIn).mapJudgement q j = none ∧
        MapEntry.ofWord (dataWord q.data (2 * j)) = some (e j) := by simpa using passed
    obtain ⟨-, -, fits⟩ := within
    have bound := (State.acceptsMap_of_judgement passed').rebinds_bound (law.heard dt .uIn) fits
    have rest := (s.heard dt .uIn).rebinds_record q e q.count.toNat
    have entries := (s.heard dt .uIn).rebinds_mapEntry e fits
    simp only [State.heard_mapEntry, State.heard_record] at bound rest entries
    refine ⟨((s.heard dt .uIn).rebinds q e q.count.toNat).map, ((s.heard dt .uIn).rebinds q e q.count.toNat).records,
      run.trans (congrArg Host.Outcome.next (State.carried_congr ?_)), entries, fun r j hj named => ?_, fun r unnamed => ?_⟩
    · rw [State.doWriteMap_applied passed', ← State.rebinds_changes]
      simp only [State.heard_mapEntry]
      rfl
    · rw [← (bound r).1 j hj named, ← rest r]; rfl
    · rw [← (bound r).2 unnamed, ← rest r]; rfl

/-! ### RECORD_CONFIG writes (R20) -/

theorem configWrites_eq (q : Request) :
    configWrites q = (List.range q.count.toNat).map fun j => (BitVec.ofNat 8 (q.index j), RecordConfig.ofData q.data (6 * j)) := by
  simp only [configWrites, Request.index_setWidth q _ (show 8 ≤ 16 by omega)]

/-- The model's check of one record is the rule's. -/
theorem State.configRefusal_eq (s : State) (q : Request) (j : Nat) :
    s.configRefusal (BitVec.ofNat 8 (q.index j), RecordConfig.ofData q.data (6 * j)) = s.configJudgement q j := by
  simp only [State.configRefusal, State.configJudgement, Option.isNone_iff_eq_none]

/-- A configuration write with a refused record changes nothing and answers for the first one (R20). -/
theorem State.doWriteConfig_refused {s : State} {q : Request} {j : Nat} {status : Status} (within : q.within .recordConfig)
    (h : firstRefused (s.configJudgement q) q.count.toNat j status) :
    s.doWriteConfig q = (s, .plain status (BitVec.ofNat 16 (q.index j))) := by
  obtain ⟨hj, refused, before⟩ := h
  have index : q.index j < 2 ^ 8 := Request.index_lt within hj
  have found : (List.range q.count.toNat).find? (fun j => (s.configJudgement q j).isSome) = some j := by
    rw [List.find?_range_eq_some]
    exact ⟨by simp [refused], List.mem_range.mpr hj, fun i hi => by simp [before i hi]⟩
  simp only [State.doWriteConfig, configWrites_eq, List.find?_map, Function.comp_def, State.configRefusal_eq, found,
    Option.map_some, refused, Option.getD_some, ofNat_setWidth_of_lt index]

/-- The state after the first `k` records of a configuration write, record `j` taking the values `c j`. -/
def State.configures (s : State) (q : Request) (c : Nat → RecordConfig) : Nat → State
  | 0 => s
  | k + 1 =>
    let t := s.configures q c k
    let r : RecordIndex := BitVec.ofNat 8 (q.index k)
    t.setRecord r ((t.record r).configure (c k))

theorem State.applyConfigs_append (s : State) (xs ys : List (RecordIndex × Option RecordConfig)) :
    s.applyConfigs (xs ++ ys) = (s.applyConfigs xs).applyConfigs ys := by
  induction xs generalizing s with
  | nil => rfl
  | cons x xs ih =>
    obtain ⟨r, c⟩ := x
    cases c <;> exact ih _

theorem State.applyConfigs_range (s : State) {q : Request} {c : Nat → RecordConfig} {k : Nat}
    (valid : ∀ j < k, RecordConfig.ofData q.data (6 * j) = some (c j)) :
    s.applyConfigs ((List.range k).map fun j => (BitVec.ofNat 8 (q.index j), RecordConfig.ofData q.data (6 * j))) =
      s.configures q c k := by
  induction k with
  | zero => rfl
  | succ k ih =>
    rw [List.range_succ, List.map_append, State.applyConfigs_append, ih fun j hj => valid j (by omega)]
    simp [State.applyConfigs, valid k, State.configures]

theorem State.configures_changes (s : State) (q : Request) (c : Nat → RecordConfig) (k : Nat) :
    s.configures q c k = { s with records := (s.configures q c k).records } := by
  induction k with
  | zero => rfl
  | succ k ih =>
    simp only [State.configures, State.setRecord]
    generalize Vector.set _ _ _ _ = records
    rw [ih]

/-- Each of the first `k` named records is configured, and no other record has changed. -/
theorem State.configures_record (s : State) {q : Request} (c : Nat → RecordConfig) {k : Nat} (fits : q.first.toNat + k ≤ 256)
    (r : RecordIndex) :
    (s.configures q c k).record r =
      if q.first.toNat ≤ r.toNat ∧ r.toNat < q.first.toNat + k then (s.record r).configure (c (r.toNat - q.first.toNat))
      else s.record r := by
  induction k with
  | zero => rw [if_neg (by omega)]; rfl
  | succ k ih =>
    have isLast := q.eq_index_iff (w := 8) (show q.first.toNat + k < 2 ^ 8 by omega) r
    simp only [State.configures, State.record_setRecord]
    split
    next here =>
      have last := isLast.mp here
      rw [← here, ih (by omega), if_neg (by omega), if_pos (by omega), show r.toNat - q.first.toNat = k by omega]
    next elsewhere =>
      rw [ih (by omega)]
      grind

theorem Record.configure_eq (x : Record) (c : RecordConfig) :
    x.configure c = if x.state = .unused then
        { state := .idle, bound := none, config := c, misses := 0, lastValue := none, queue := [],
          counters := { released := 0, repeated := 0, missed := 0, early := 0, late := 0, refused := 0 } }
      else { x with config := c } := by
  unfold Record.configure
  cases h : x.state <;> simp [RecordCounters.zero]

/-- A configuration write without a refused record is applied, and answers by whether a record was allocated or changed (R20). -/
theorem State.doWriteConfig_applied {s : State} {q : Request} {c : Nat → RecordConfig}
    (passed : ∀ j < q.count.toNat, s.configJudgement q j = none ∧ RecordConfig.ofData q.data (6 * j) = some (c j)) :
    s.doWriteConfig q = (s.configures q c q.count.toNat,
      .plain (if ∃ j < q.count.toNat, (s.record (BitVec.ofNat 8 (q.index j))).state = .unused ∨
        (s.record (BitVec.ofNat 8 (q.index j))).config ≠ c j then .ok else .noChange) 0) := by
  have check : (List.range q.count.toNat).find? (fun j => (s.configJudgement q j).isSome) = none := by
    rw [List.find?_range_eq_none]
    exact fun j hj => by simp [(passed j hj).1]
  have changed : ((List.range q.count.toNat).map fun j => (BitVec.ofNat 8 (q.index j), RecordConfig.ofData q.data (6 * j))).any
      (fun x => (s.record x.1).state == .unused || x.2 != some (s.record x.1).config) = true ↔
      ∃ j < q.count.toNat, (s.record (BitVec.ofNat 8 (q.index j))).state = .unused ∨
        (s.record (BitVec.ofNat 8 (q.index j))).config ≠ c j := by
    simp only [List.any_map, List.any_eq_true, List.mem_range, Function.comp_apply]
    exact exists_congr fun j => and_congr_right fun hj => by simp [(passed j hj).2, eq_comm (a := c j)]
  simp only [State.doWriteConfig, configWrites_eq, List.find?_map, Function.comp_def, State.configRefusal_eq, check,
    Option.map_none, s.applyConfigs_range fun j hj => (passed j hj).2, Answer.ofChange_eq, changed]

/-- Settles O29: the refusal is the first one that the check finds; each record of an applied write is configured once. -/
theorem writeRecordConfigAllocates : Obligations.WriteRecordConfigAllocates := by
  intro s dt q c allowed within
  have run : exec (.writeRecordConfig dt q) s = .next (s.carried dt 1 0x5 q fun u =>
      (u.doWriteConfig q).1.reply q (u.doWriteConfig q).2) :=
    congrArg Host.Outcome.next (s.write_eq dt .recordConfig q s.straps allowed rfl within nofun)
  refine ⟨fun j status refused => ?_, fun passed => ?_⟩
  · refine run.trans (congrArg Host.Outcome.next (State.carried_congr ?_))
    rw [State.doWriteConfig_refused within (by simpa only [funext (s.heard_configJudgement dt .uIn q)] using refused)]
    rfl
  · have passed' : ∀ j < q.count.toNat, (s.heard dt .uIn).configJudgement q j = none ∧
        RecordConfig.ofData q.data (6 * j) = some (c j) := by simpa using passed
    obtain ⟨-, -, fits⟩ := within
    have written := (s.heard dt .uIn).configures_record c fits
    simp only [State.heard_record] at written
    refine ⟨((s.heard dt .uIn).configures q c q.count.toNat).records,
      run.trans (congrArg Host.Outcome.next (State.carried_congr ?_)), fun r outside => ?_, fun r j hj named => ?_⟩
    · rw [State.doWriteConfig_applied passed', ← State.configures_changes]
      simp only [State.heard_record]
      rfl
    · exact (written r).trans (if_neg outside)
    · rw [← Record.configure_eq]
      have place : r.toNat = q.first.toNat + j := named
      have here := (written r).trans (if_pos (by omega))
      rwa [show r.toNat - q.first.toNat = j by omega] at here

end Sys2Proof.Machine
end

section
/-! The buffer pool's part of the state, and what leaves it alone (R39, R40). -/

namespace Sys2Proof.Machine

/-- What the pool's law speaks of: the records with their queues, the free count, the Pass Queue and the cell in flight on D-out
(R40). -/
structure Pool where
  records : Vector Record 256
  free : Nat
  passQueue : List Cell
  dOut : Option Flight

/-- The pool's part of the state. -/
def State.pool (s : State) : Pool := { records := s.records, free := s.free, passQueue := s.passQueue, dOut := s.dOut }

theorem State.pool_eq_iff {s t : State} :
    t.pool = s.pool ↔ t.records = s.records ∧ t.free = s.free ∧ t.passQueue = s.passQueue ∧ t.dOut = s.dOut := by
  simp [State.pool]

/-- The law speaks of the pool's part of the state only. -/
theorem PoolLaw.of_pool {s t : State} (law : PoolLaw s) (h : t.pool = s.pool) : PoolLaw t := by
  obtain ⟨records, free, passQueue, dOut⟩ := State.pool_eq_iff.mp h
  simpa only [PoolLaw, State.queued, State.inFlight, State.record, records, free, passQueue, dOut] using law

/-! ### Shared operations -/

@[simp] theorem State.offerEvent_pool (s : State) (k : EventKind) (o : Option (BitVec 8)) (a : Option Word16) :
    (s.offerEvent k o a).pool = s.pool := by
  simp [State.pool]

@[simp] theorem State.offerEach_pool (s : State) (k : EventKind) (os : List (BitVec 8)) : (s.offerEach k os).pool = s.pool := by
  simp [State.pool]

@[simp] theorem State.setLink_pool (s : State) (side : Side) (l : Link) : (s.setLink side l).pool = s.pool := by
  simp [State.pool]

@[simp] theorem State.haltEngine_pool (s : State) : s.haltEngine.pool = s.pool := by
  simp [State.pool]

/-! ### Arrivals and the Through FIFO -/

@[simp] theorem State.validArrival_pool (s : State) (side : Side) : (s.validArrival side).pool = s.pool := by
  unfold State.validArrival
  dsimp only
  split
  · exact s.setLink_pool _ _
  · exact (State.offerEvent_pool ..).trans (s.setLink_pool _ _)

@[simp] theorem State.goodArrival_pool (s : State) (side : Side) : (s.goodArrival side).pool = s.pool :=
  s.validArrival_pool side

theorem State.loseLink_pool (s : State) (side : Side) : (s.loseLink side).pool = s.pool :=
  (State.offerEvent_pool ..).trans (s.setLink_pool _ _)

theorem State.offerThrough_pool (s : State) (c : Cell) : (s.offerThrough c).pool = s.pool := by
  unfold State.offerThrough
  split
  · rfl
  · exact State.offerEvent_pool ..

theorem State.routeDIn_pool (s : State) (c : Cell) : (s.routeDIn c).pool = s.pool := by
  unfold State.routeDIn
  split_ifs
  · exact s.offerThrough_pool c
  · rfl
  · rfl

/-! ### The Cycle Lock -/

theorem State.loseLock_pool (s : State) (why : LockReason) : (s.loseLock why).pool = s.pool :=
  (State.offerEvent_pool ..).trans (State.haltEngine_pool _)

theorem State.restartLock_pool (s : State) : s.restartLock.pool = s.pool := by
  unfold State.restartLock
  split
  · exact s.loseLock_pool _
  · exact State.offerEvent_pool ..

theorem State.seed_pool (s : State) (n : Word16) : (s.seed n).pool = s.pool :=
  (State.offerEvent_pool ..).trans (State.haltEngine_pool _)

theorem State.slip_pool (s : State) (w : Window) (n : Word16) : (s.slip w n).pool = s.pool := by
  unfold State.slip
  split
  · rfl
  · exact State.offerEvent_pool ..

/-- A measured arrival before the lock's counts are judged: the window spent, a number slip, the trim (R116, R118, R119). -/
theorem State.measured_pool (s : State) (w : Window) (n : Word16) : (((s.spendWindow w).slip w n).applyTrim w).pool = s.pool :=
  (s.spendWindow w).slip_pool w n

@[simp] theorem State.measureAcquiring_pool (s : State) (w : Window) (n : Word16) : (s.measureAcquiring w n).pool = s.pool := by
  unfold State.measureAcquiring
  dsimp only
  split_ifs
  · exact State.offerEvent_pool ..
  · rfl
  · exact s.seed_pool n

@[simp] theorem State.measureTracking_pool (s : State) (w : Window) (n : Word16) : (s.measureTracking w n).pool = s.pool := by
  unfold State.measureTracking
  dsimp only
  split_ifs
  · exact s.measured_pool w n
  · exact (State.loseLock_pool _ _).trans (s.measured_pool w n)
  · exact s.measured_pool w n

@[simp] theorem State.measureHoldover_pool (s : State) (w : Window) (n : Word16) : (s.measureHoldover w n).pool = s.pool := by
  unfold State.measureHoldover
  dsimp only
  split_ifs
  · exact (State.offerEvent_pool ..).trans (s.measured_pool w n)
  · exact (State.loseLock_pool _ _).trans (s.measured_pool w n)
  · exact (State.loseLock_pool _ _).trans (s.measured_pool w n)
  · exact s.measured_pool w n

@[simp] theorem State.outsideWindow_pool (s : State) : s.outsideWindow.pool = s.pool := rfl

/-- A SYNC cell moves no buffer (R117). -/
theorem State.takeSync_pool (s : State) (n : Word16) : (s.takeSync n).pool = s.pool := by
  unfold State.takeSync
  cases s.settings.source with
  | loc => rfl
  | line =>
    cases s.lock.state with
    | free => rfl
    | seeking => exact s.seed_pool n
    | acquiring | tracking | holdover =>
      dsimp only
      split
      · split <;> simp
      · rfl

theorem State.missWindow_pool (s : State) (w : Window) : (s.missWindow w).pool = s.pool := by
  unfold State.missWindow
  cases s.lock.state with
  | free => rfl
  | seeking => rfl
  | acquiring => exact s.loseLock_pool _
  | tracking => dsimp only; split; exacts [State.offerEvent_pool .., s.loseLock_pool _]
  | holdover => dsimp only; split; exacts [s.loseLock_pool _, rfl]

/-- The end of a sync window moves no buffer (R116). -/
theorem State.endWindow_pool (s : State) (w : Window) : (s.endWindow w).pool = s.pool := by
  unfold State.endWindow
  split
  · rfl
  · exact State.missWindow_pool _ w

/-! ### The Edit Lease -/

theorem State.handOver_pool (s : State) : s.handOver.pool = s.pool := by
  unfold State.handOver
  split
  · exact State.offerEvent_pool ..
  · rfl

theorem State.expireLease_pool (s : State) : s.expireLease.pool = s.pool :=
  (State.handOver_pool _).trans (State.offerEvent_pool ..)

/-- A lease operation moves no buffer (R177). -/
theorem State.executeLease_pool (s : State) (o : LeaseOperation) (q : Request) : (s.executeLease o q).1.pool = s.pool := by
  cases o with
  | acquire =>
    unfold State.executeLease State.doAcquire
    dsimp only
    split
    · exact State.offerEvent_pool ..
    · split <;> rfl
  | renew =>
    unfold State.executeLease State.doRenew
    dsimp only
    split <;> rfl
  | release =>
    unfold State.executeLease State.doLeaseRelease
    dsimp only
    split
    · rfl
    · exact s.handOver_pool
  | claim =>
    unfold State.executeLease State.doClaim
    dsimp only
    split
    · exact State.offerEvent_pool ..
    · split
      · rfl
      · split
        · exact State.offerEvent_pool ..
        · split <;> rfl

/-! ### Banks, output lines, settings and port counters -/

theorem State.askCopy_pool (s : State) : s.askCopy.1.pool = s.pool := by
  unfold State.askCopy
  split <;> rfl

theorem State.askSwap_pool (s : State) (target : SwapTarget) : (s.askSwap target).1.pool = s.pool := by
  unfold State.askSwap
  split
  · rfl
  · rfl
  · split <;> rfl

theorem State.cancelSwap_pool (s : State) : s.cancelSwap.1.pool = s.pool := by
  unfold State.cancelSwap
  split <;> rfl

theorem State.writeShadow_pool (s : State) (q : Request) : (s.writeShadow q).1.pool = s.pool := by
  unfold State.writeShadow
  split
  · rfl
  · rfl
  · dsimp only
    split <;> rfl

theorem State.writeLength_pool (s : State) (q : Request) : (s.writeLength q).1.pool = s.pool := by
  unfold State.writeLength
  split
  · rfl
  · rfl
  · dsimp only
    split <;> rfl

theorem State.applyLines_pool (s : State) (writes : List (BitVec 3 × Option LineConfig)) :
    (s.applyLines writes).pool = s.pool := by
  induction writes generalizing s with
  | nil => rfl
  | cons write writes ih =>
    obtain ⟨i, _ | c⟩ := write
    · exact ih s
    · exact ih (s.setLine i c.line)

theorem State.doWriteLine_pool (s : State) (q : Request) : (s.doWriteLine q).1.pool = s.pool := by
  unfold State.doWriteLine
  dsimp only
  split
  · rfl
  · exact s.applyLines_pool _

theorem State.doWriteSettings_pool (s : State) (q : Request) : (s.doWriteSettings q).1.pool = s.pool := by
  unfold State.doWriteSettings
  split
  · rfl
  · dsimp only
    split_ifs
    · rfl
    · rfl
    · exact State.restartLock_pool _

/-! ### Replies and U-out -/

theorem State.dropRequest_pool (s : State) (q : Request) : (s.dropRequest q).pool = s.pool :=
  State.offerEvent_pool ..

theorem State.sendOwn_pool (s : State) (o : OwnCandidate) : (s.sendOwn o).pool = s.pool := by
  cases o <;> rfl

/-- U-out takes no buffer of the pool (R149). -/
theorem State.fillCellTime_pool (s : State) (k : Nat) : (s.fillCellTime k).pool = s.pool := by
  unfold State.fillCellTime State.arbitrate
  split
  · rfl
  · split
    · exact s.sendOwn_pool _
    · rfl
    · split
      · rfl
      · exact s.sendOwn_pool _

end Sys2Proof.Machine
end

section
/-! How the pool's law is kept by each operation that moves a buffer or changes a record (R38 to R54). -/

namespace Sys2Proof.Machine

/-! ### The law, record by record -/

/-- The states in which a record's queue is empty (R40). -/
abbrev Record.rests (x : Record) : Prop := x.state = .unused ∨ x.state = .idle ∨ x.state = .faulted

/-- A record's part of R40: its depth limit in its range, its queue within it, and empty in UNUSED, IDLE and FAULTED. -/
def Record.WithinLimits (x : Record) : Prop :=
  1 ≤ x.config.depthLimit ∧ x.config.depthLimit ≤ 32 ∧ x.queue.length ≤ x.config.depthLimit ∧
    (x.rests → x.queue = [])

theorem PoolLaw.record {s : State} (law : PoolLaw s) (r : RecordIndex) : (s.record r).WithinLimits := law.2.2 r

theorem Record.unused_withinLimits : Record.unused.WithinLimits := by
  unfold Record.WithinLimits
  decide

/-- A record with another queue no longer than the limit allows, in a state that may hold cells. -/
theorem Record.WithinLimits.refill {x y : Record} (h : x.WithinLimits) (config : y.config = x.config)
    (holds : ¬y.rests) (fits : y.queue.length ≤ x.config.depthLimit) :
    y.WithinLimits := by
  obtain ⟨low, high, -, -⟩ := h
  exact ⟨config ▸ low, config ▸ high, config ▸ fits, fun rests => absurd rests holds⟩

theorem Record.WithinLimits.empty {x y : Record} (h : x.WithinLimits) (config : y.config = x.config) (none : y.queue = []) :
    y.WithinLimits := by
  obtain ⟨low, high, -, -⟩ := h
  exact ⟨config ▸ low, config ▸ high, by simp [none], fun _ => none⟩

/-- A record whose queue keeps its cells or loses some, its configuration and state unchanged. -/
theorem Record.WithinLimits.shrink {x y : Record} (h : x.WithinLimits) (config : y.config = x.config) (state : y.state = x.state)
    (queue : y.queue.Sublist x.queue) : y.WithinLimits := by
  obtain ⟨low, high, fits, rests⟩ := h
  refine ⟨config ▸ low, config ▸ high, config ▸ queue.length_le.trans fits, fun resting => ?_⟩
  have rested : x.rests := by simpa only [Record.rests, state] using resting
  exact List.sublist_nil.mp (rests rested ▸ queue)

/-- A change of one record, and how the cells then held by all records compare with those held before. -/
theorem State.queued_setRecord (s : State) (r : RecordIndex) (x : Record) :
    (s.setRecord r x).queued + (s.record r).queue.length = s.queued + x.queue.length := by
  have lt : r.toNat < (s.records.toList.map fun x => x.queue.length).length := by simpa using r.isLt
  have before := List.sum_take_add_sum_drop (s.records.toList.map fun x => x.queue.length) r.toNat
  rw [List.drop_eq_getElem_cons lt, List.sum_cons] at before
  have after := List.sum_set (s.records.toList.map fun x => x.queue.length) r.toNat x.queue.length
  rw [if_pos lt] at after
  simp only [State.queued, State.setRecord, State.record, Vector.toList_set, List.map_set, List.getElem_map,
    Vector.getElem_toList] at before after ⊢
  omega

theorem State.queued_congr {s t : State} (h : ∀ r, (t.record r).queue.length = (s.record r).queue.length) :
    t.queued = s.queued := by
  unfold State.queued
  refine congrArg List.sum (List.ext_getElem (by simp) fun i hi _ => ?_)
  have hi : i < 256 := by simpa using hi
  simpa [State.record, Nat.mod_eq_of_lt hi] using h (BitVec.ofNat 8 i)

/-! ### Changes of records -/

/-- Record `r` becomes `x` within its limits, and the buffers that its queue takes or gives are found in the rest of the pool. -/
theorem PoolLaw.update {s t : State} (law : PoolLaw s) {r : RecordIndex} {x : Record}
    (records : t.records = (s.setRecord r x).records) (limits : x.WithinLimits) (passLimit : t.passQueue.length ≤ 48)
    (balance : t.free + x.queue.length + t.passQueue.length + t.inFlight =
      s.free + (s.record r).queue.length + s.passQueue.length + s.inFlight) : PoolLaw t := by
  obtain ⟨total, -, others⟩ := law
  have queued : t.queued = (s.setRecord r x).queued := by simp only [State.queued, records]
  have moved := s.queued_setRecord r x
  refine ⟨by omega, passLimit, fun r' => ?_⟩
  rw [State.record_congr records, State.record_setRecord]
  split
  · exact limits
  · exact others r'

/-- Record `r` becomes `x` within its limits, and the free count answers for its queue. -/
theorem PoolLaw.trade {s : State} (law : PoolLaw s) {r : RecordIndex} {x : Record} {free : Nat} (limits : x.WithinLimits)
    (balance : free + x.queue.length = s.free + (s.record r).queue.length) :
    PoolLaw (({ s with free := free } : State).setRecord r x) :=
  law.update rfl limits law.2.1 (by
    show free + x.queue.length + s.passQueue.length + s.inFlight = _
    omega)

/-- Record `r` becomes `x` within its limits, with as many cells. -/
theorem PoolLaw.setRecord {s : State} (law : PoolLaw s) {r : RecordIndex} {x : Record} (limits : x.WithinLimits)
    (held : x.queue.length = (s.record r).queue.length) : PoolLaw (s.setRecord r x) :=
  law.trade (free := s.free) limits (by rw [held])

/-- Record `r` changes in its binding, misses, last value or counters. -/
theorem PoolLaw.setRecord_same {s : State} (law : PoolLaw s) {r : RecordIndex} {x : Record} (queue : x.queue = (s.record r).queue)
    (config : x.config = (s.record r).config) (state : x.state = (s.record r).state) : PoolLaw (s.setRecord r x) :=
  law.setRecord ((law.record r).shrink config state (queue ▸ .refl _)) (by rw [queue])

/-- Every record changes, keeping its queue and within its limits. -/
theorem PoolLaw.eachRecord {s : State} (law : PoolLaw s) {f : Record → Record} (queue : ∀ x, (f x).queue = x.queue)
    (limits : ∀ x, x.WithinLimits → (f x).WithinLimits) : PoolLaw { s with records := mapAll f s.records } := by
  have changed (r : RecordIndex) : ({ s with records := mapAll f s.records } : State).record r = f (s.record r) :=
    getElem_mapAll f s.records _ _
  obtain ⟨total, passLimit, records⟩ := law
  refine ⟨?_, passLimit, fun r => ?_⟩
  · have queued := State.queued_congr fun r => congrArg List.length ((congrArg Record.queue (changed r)).trans (queue _))
    rw [queued]
    exact total
  · rw [changed]
    exact limits _ (records r)

/-! ### Admission and flushes (R42 to R49) -/

theorem PoolLaw.refuseCell {s : State} (law : PoolLaw s) (r : RecordIndex) : PoolLaw (s.refuseCell r) :=
  law.setRecord_same rfl rfl rfl

theorem PoolLaw.appendCell {s : State} (law : PoolLaw s) {r : RecordIndex} (c : Cell) (holds : ¬(s.record r).rests)
    (room : (s.record r).queue.length < (s.record r).config.depthLimit) (buffer : 0 < s.free) : PoolLaw (s.appendCell r c) := by
  refine law.trade ((law.record r).refill rfl holds ?_) ?_
  · simpa using room
  · simp only [List.length_append, List.length_singleton]
    omega

theorem PoolLaw.replaceHead {s : State} (law : PoolLaw s) {r : RecordIndex} (c : Cell) (holds : ¬(s.record r).rests)
    (nonempty : (s.record r).queue ≠ []) : PoolLaw (s.replaceHead r c) := by
  have length : ((s.record r).queue.tail ++ [c]).length = (s.record r).queue.length := by
    have := List.length_pos_iff.mpr nonempty
    rw [List.length_append, List.length_tail, List.length_singleton]
    omega
  obtain ⟨-, -, fits, -⟩ := law.record r
  exact law.setRecord ((law.record r).refill rfl holds (length.trans_le fits)) length

theorem PoolLaw.placeCell {s : State} (law : PoolLaw s) {r : RecordIndex} (c : Cell) (holds : ¬(s.record r).rests) :
    PoolLaw (s.placeCell r c) := by
  unfold State.placeCell
  dsimp only
  split
  next room =>
    split
    next buffer => exact law.appendCell c holds room buffer
    next =>
      split
      next cells => exact law.replaceHead c holds (by simp [cells])
      next => exact (law.refuseCell r).of_pool (State.offerEvent_pool ..)
  next full =>
    split
    · exact law.refuseCell r
    · refine law.replaceHead c holds fun none => full ?_
      obtain ⟨low, -⟩ := law.record r
      rw [none]
      exact low

/-- A DATA cell offered to a record: placed in the states that take cells, else refused (R42). -/
theorem PoolLaw.offerRecord {s : State} (law : PoolLaw s) (r : RecordIndex) (c : Cell) : PoolLaw (s.offerRecord r c) := by
  unfold State.offerRecord
  cases state : (s.record r).state with
  | filling | starting | running | paused => exact law.placeCell c (by simp [state])
  | idle | faulted => exact law.refuseCell r
  | unused => exact law

/-- Record `r` loses its queue, all its buffers freed, and takes other values (R26, R31, R49). -/
theorem PoolLaw.flush {s : State} (law : PoolLaw s) {r : RecordIndex} {x : Record} (config : x.config = (s.record r).config)
    (empty : x.queue = []) : PoolLaw ((s.flushQueue r).setRecord r x) := by
  rw [State.flushQueue, State.setRecord_setRecord]
  exact law.trade ((law.record r).empty config empty) (by simp [empty])

/-! ### The Pass Queue (R51 to R53) -/

theorem State.passVerdict_eq_room {s : State} : s.passVerdict = .room ↔ s.passQueue.length < 48 ∧ 0 < s.free := by
  unfold State.passVerdict Config.passLimit
  split_ifs <;> simp_all

/-- A verdict carried out, where there is room for the cell if the verdict says so. -/
theorem PoolLaw.applyPass {s : State} (law : PoolLaw s) {v : PassVerdict} (c : Cell)
    (room : v = .room → s.passQueue.length < 48 ∧ 0 < s.free) : PoolLaw (s.applyPass v c) := by
  cases v with
  | room =>
    obtain ⟨place, buffer⟩ := room rfl
    obtain ⟨total, -, records⟩ := law
    have length : (s.passQueue ++ [c]).length = s.passQueue.length + 1 := by simp
    refine ⟨?_, length.trans_le place, records⟩
    show s.free - 1 + s.queued + (s.passQueue ++ [c]).length + s.inFlight = 384
    omega
  | queueFull => exact law
  | poolEmpty => exact law.of_pool (State.offerEvent_pool ..)

theorem PoolLaw.offerPass {s : State} (law : PoolLaw s) (c : Cell) : PoolLaw (s.offerPass c) :=
  law.applyPass c State.passVerdict_eq_room.mp

/-- A DATA cell on U-in, by its map entry (R16). -/
theorem PoolLaw.takeData {s : State} (law : PoolLaw s) (c : Cell) : PoolLaw (s.takeData c) := by
  unfold State.takeData
  split
  · exact law.offerPass c
  · exact law
  · exact law.offerRecord _ c

/-! ### The cell in flight on D-out (R48, R53, R82) -/

@[simp] theorem State.endFlight_dOut (s : State) : s.endFlight.dOut = none := by
  rw [State.endFlight_eq]

theorem State.inFlight_of_none {s : State} (idle : s.dOut = none) : s.inFlight = 0 := by
  simp [State.inFlight, idle]

theorem PoolLaw.endFlight {s : State} (law : PoolLaw s) : PoolLaw s.endFlight := by
  obtain ⟨total, passLimit, records⟩ := law
  rw [State.endFlight_eq]
  refine ⟨?_, passLimit, records⟩
  show s.free + s.inFlight + s.queued + s.passQueue.length + 0 = 384
  omega

theorem PoolLaw.sendBuilt {s : State} (law : PoolLaw s) (idle : s.dOut = none) (c : Cell) (source : FlightSource) :
    PoolLaw (s.sendBuilt c source) := by
  obtain ⟨total, passLimit, records⟩ := law
  rw [State.inFlight_of_none idle] at total
  exact ⟨total, passLimit, records⟩

/-- A slot that serves the Pass Queue moves its head's buffer into flight (R53). -/
theorem PoolLaw.servePass {s : State} (law : PoolLaw s) (idle : s.dOut = none) : PoolLaw s.servePass := by
  unfold State.servePass
  split
  next c rest head =>
    obtain ⟨total, passLimit, records⟩ := law
    have length : s.passQueue.length = rest.length + 1 := by simp [head]
    rw [State.inFlight_of_none idle] at total
    refine ⟨?_, show rest.length ≤ 48 by omega, records⟩
    show s.free + s.queued + rest.length + 1 = 384
    omega
  next => exact law.sendBuilt idle _ _

/-! ### A slot of a record (R85 to R94) -/

/-- The stale heads purged are freed (R87). -/
theorem PoolLaw.purge {s : State} (law : PoolLaw s) (r : RecordIndex) : PoolLaw (s.purge r) := by
  refine law.trade ((law.record r).shrink rfl rfl (List.dropWhile_sublist _)) ?_
  have length := congrArg List.length ((s.record r).queue.takeWhile_append_dropWhile (p := isStale s.timer.number))
  rw [List.length_append] at length
  show s.free + ((s.record r).queue.takeWhile (isStale s.timer.number)).length +
    ((s.record r).queue.dropWhile (isStale s.timer.number)).length = _
  omega

/-- The head released takes its buffer into flight, or frees it when the delivery is LOCAL (R89, R94). -/
theorem PoolLaw.releaseHead {s : State} (law : PoolLaw s) (idle : s.dOut = none) {r : RecordIndex} {c : Cell} {rest : List Cell}
    (head : (s.record r).queue = c :: rest) : PoolLaw (s.releaseHead r c rest) := by
  have limits : ((s.record r).release c rest).WithinLimits :=
    (law.record r).shrink rfl rfl (head ▸ List.sublist_cons_self c rest)
  have length : (s.record r).queue.length = ((s.record r).release c rest).queue.length + 1 := by rw [head]; rfl
  have sent (config : RecordConfig) :
      PoolLaw ((s.setRecord r ((s.record r).release c rest)).sendReleased r c config) := by
    refine law.update rfl limits law.2.1 ?_
    rw [length, State.inFlight_of_none idle]
    show s.free + _ + s.passQueue.length + 1 = _
    omega
  unfold State.releaseHead
  dsimp only
  split
  · exact sent _
  · exact sent _
  · refine PoolLaw.servePass (PoolLaw.of_pool (law.trade (free := s.free + 1) limits ?_) rfl) idle
    omega

/-- The cell of a slot that follows the miss policy (R91). -/
theorem PoolLaw.followPolicy {s : State} (law : PoolLaw s) (idle : s.dOut = none) (r : RecordIndex) (counts : Bool) :
    PoolLaw (s.followPolicy r counts) := by
  unfold State.followPolicy
  dsimp only
  split
  · exact law.sendBuilt idle _ _
  · exact law.servePass idle
  · split
    · cases counts with
      | true => exact PoolLaw.sendBuilt (law.setRecord_same (x := (s.record r).countRepeated) rfl rfl rfl) idle _ _
      | false => exact law.sendBuilt idle _ _
    · exact law.sendBuilt idle _ _

theorem PoolLaw.faultRecord {s : State} (law : PoolLaw s) (r : RecordIndex) : PoolLaw (s.faultRecord r) := by
  refine PoolLaw.of_pool (law.flush (r := r) ?_ ?_) (State.offerEvent_pool ..)
  · simp [State.flushQueue]
  · simp [State.flushQueue]

/-- A miss, and the fault that it may be (R90, R91). -/
theorem PoolLaw.miss {s : State} (law : PoolLaw s) (idle : s.dOut = none) (r : RecordIndex) : PoolLaw (s.miss r) := by
  have missed : PoolLaw (s.setRecord r { (s.record r).countMissed with misses := saturate (s.record r).misses }) :=
    law.setRecord_same rfl rfl rfl
  have sent := missed.followPolicy idle r true
  unfold State.miss
  dsimp only
  split
  · exact sent.faultRecord r
  · exact sent

/-- A slot of a RUNNING record (R86 to R90). -/
theorem PoolLaw.judge {s : State} (law : PoolLaw s) (idle : s.dOut = none) (r : RecordIndex) : PoolLaw (s.judge r) := by
  unfold State.judge
  dsimp only
  split
  · exact (law.purge r).miss idle r
  next head =>
    split
    · exact (law.purge r).releaseHead idle head
    · have early : PoolLaw ((s.purge r).setRecord r ((s.purge r).record r).countEarly) :=
        (law.purge r).setRecord_same rfl rfl rfl
      exact early.miss idle r

theorem PoolLaw.fillReserved {s : State} (law : PoolLaw s) (idle : s.dOut = none) (r : RecordIndex) :
    PoolLaw (s.fillReserved r) := by
  unfold State.fillReserved
  cases (s.record r).state with
  | running => exact law.judge idle r
  | idle | filling | starting | paused => exact law.followPolicy idle r false
  | faulted => cases (s.record r).config.missPolicy with
    | yieldSlot => exact law.servePass idle
    | idleCell | repeatLast => exact law.sendBuilt idle _ _
  | unused => exact law.sendBuilt idle _ _

/-- A slot of 1..N-1 filled (R80, R84, R85). -/
theorem PoolLaw.fillSlot {s : State} (law : PoolLaw s) (idle : s.dOut = none) (k : Nat) : PoolLaw (s.fillSlot k) := by
  unfold State.fillSlot State.fillByEntry
  split
  · exact law.servePass idle
  · split
    · exact law.servePass idle
    · exact law.sendBuilt idle _ _
    · exact law.fillReserved idle _

theorem PoolLaw.fillSlotZero {s : State} (law : PoolLaw s) (idle : s.dOut = none) : PoolLaw s.fillSlotZero := by
  unfold State.fillSlotZero
  split
  · exact law.servePass idle
  · exact law.sendBuilt idle _ _

/-! ### Slots and boundaries (R7, R30, R82) -/

theorem PoolLaw.beginSlot {s : State} (law : PoolLaw s) (k : Nat) : PoolLaw (s.beginSlot k) := by
  have ended : PoolLaw ((s.reach (s.timer.slotTick k)).endSlot.atPosition (.slot k)) :=
    PoolLaw.endFlight (s := s.reach (s.timer.slotTick k)) law
  exact ended.fillSlot (State.endFlight_dOut _) k

theorem PoolLaw.beginGuard {s : State} (law : PoolLaw s) (t : Nat) : PoolLaw (s.beginGuard t) :=
  PoolLaw.endFlight (s := s.reach t) law

theorem State.reportSwap_pool (s : State) (taken : Bool) : (s.reportSwap taken).pool = s.pool := by
  unfold State.reportSwap
  split
  · exact State.offerEvent_pool ..
  · rfl

theorem State.decideEngine_pool (s : State) : s.decideEngine.pool = s.pool := by
  unfold State.decideEngine
  split
  · rfl
  · exact s.haltEngine_pool

/-- A STARTING record that becomes RUNNING keeps its queue (R30). -/
theorem Record.WithinLimits.promote {x : Record} (h : x.WithinLimits) : x.promote.WithinLimits := by
  have ⟨_, _, fits, _⟩ := h
  unfold Record.promote
  split
  · exact h.refill rfl (by simp) fits
  · exact h

theorem Record.promote_queue (x : Record) : x.promote.queue = x.queue := by
  unfold Record.promote
  split <;> rfl

theorem PoolLaw.promote {s : State} (law : PoolLaw s) : PoolLaw s.promote := by
  unfold State.promote
  split
  · exact law
  · exact (law.eachRecord Record.promote_queue fun _ h => h.promote).of_pool (State.offerEach_pool ..)

theorem State.promote_dOut (s : State) : s.promote.dOut = s.dOut := by
  unfold State.promote
  split
  · rfl
  · exact State.offerEach_dOut ..

/-- A cycle boundary: the last flight ends before slot 0 is filled (R7). -/
theorem PoolLaw.boundary {s : State} (law : PoolLaw s) : PoolLaw s.boundary := by
  have decided (t : State) (taken : Bool) : (t.turnCycle.reportSwap taken).decideEngine.pool = t.pool :=
    (State.decideEngine_pool _).trans (State.reportSwap_pool _ _)
  refine PoolLaw.fillSlotZero (PoolLaw.promote ?_) ?_
  · exact (PoolLaw.endFlight (s := s.reach s.timer.boundaryTick) law).of_pool (decided _ _)
  · rw [State.promote_dOut]
    exact (congrArg Pool.dOut (decided _ _)).trans (State.endFlight_dOut _)

end Sys2Proof.Machine
end

section
/-! The pool's law under the requests that write the Stream Map and the Stream Table, the record commands and the resets, and so
under every step (R17 to R28, R38, R40). -/

namespace Sys2Proof.Machine

/-! ### MAP and RECORD_CONFIG writes (R18, R20) -/

/-- A map entry moves bindings, and no cell (R18). -/
theorem PoolLaw.rebind {s : State} (law : PoolLaw s) (id : StreamId) (e : MapEntry) : PoolLaw (s.rebind id e) := by
  have unbound : PoolLaw (match s.mapEntry id with | .bound r => s.unbind r | .pass | .drop => s) := by
    cases s.mapEntry id with
    | pass | drop => exact law
    | bound r => exact law.setRecord_same rfl rfl rfl
  unfold State.rebind
  split
  · exact law
  · cases e with
    | pass | drop => exact unbound
    | bound r => exact unbound.setRecord_same rfl rfl rfl

theorem PoolLaw.applyMap {s : State} (law : PoolLaw s) (writes : List (StreamId × Word16)) : PoolLaw (s.applyMap writes) := by
  induction writes generalizing s with
  | nil => exact law
  | cons write writes ih =>
    unfold State.applyMap
    split
    · exact ih (law.rebind _ _)
    · exact ih law

theorem PoolLaw.doWriteMap {s : State} (law : PoolLaw s) (q : Request) : PoolLaw (s.doWriteMap q).1 := by
  unfold State.doWriteMap
  dsimp only
  split
  · exact law
  · exact law.applyMap _

/-- A written configuration has its depth limit in range (R19, R20). -/
theorem RecordConfig.ofData_depthLimit {d : DataArea} {i : Nat} {c : RecordConfig} (h : RecordConfig.ofData d i = some c) :
    1 ≤ c.depthLimit ∧ c.depthLimit ≤ 32 := by
  unfold RecordConfig.ofData at h
  dsimp only at h
  split at h
  · split_ifs at h with range
    obtain rfl := Option.some.inj h
    exact ⟨range.1, range.2.1⟩
  · cases h

/-- A record whose queue is empty, configured anew. -/
theorem Record.configure_withinLimits {x : Record} {c : RecordConfig} (empty : x.queue = []) (low : 1 ≤ c.depthLimit)
    (high : c.depthLimit ≤ 32) : (x.configure c).queue = [] ∧ (x.configure c).WithinLimits := by
  have configured : (x.configure c).queue = [] ∧ (x.configure c).config = c := by
    rw [Record.configure_eq]
    split
    · exact ⟨rfl, rfl⟩
    · exact ⟨empty, rfl⟩
  obtain ⟨none, config⟩ := configured
  refine ⟨none, ?_⟩
  unfold Record.WithinLimits
  rw [config, none]
  exact ⟨low, high, Nat.zero_le _, fun _ => rfl⟩

/-- Configurations with a depth limit in range, of records that hold no cell (R20). -/
theorem PoolLaw.applyConfigs {s : State} (law : PoolLaw s) {writes : List (RecordIndex × Option RecordConfig)}
    (empty : ∀ e ∈ writes, (s.record e.1).queue = [])
    (range : ∀ e ∈ writes, ∀ c, e.2 = some c → 1 ≤ c.depthLimit ∧ c.depthLimit ≤ 32) : PoolLaw (s.applyConfigs writes) := by
  induction writes generalizing s with
  | nil => exact law
  | cons write writes ih =>
    obtain ⟨emptyHead, emptyTail⟩ := List.forall_mem_cons.mp empty
    obtain ⟨rangeHead, rangeTail⟩ := List.forall_mem_cons.mp range
    obtain ⟨r, _ | c⟩ := write
    · exact ih law emptyTail rangeTail
    · obtain ⟨low, high⟩ := rangeHead c rfl
      obtain ⟨none, limits⟩ := Record.configure_withinLimits emptyHead low high
      refine ih (law.setRecord limits (by rw [none, emptyHead])) (fun e he => ?_) rangeTail
      rw [State.record_setRecord]
      split
      · exact none
      · exact emptyTail e he

theorem PoolLaw.doWriteConfig {s : State} (law : PoolLaw s) (q : Request) : PoolLaw (s.doWriteConfig q).1 := by
  unfold State.doWriteConfig
  dsimp only
  split
  · exact law
  next none =>
    refine law.applyConfigs (fun e he => ?_) (fun e he c valid => ?_)
    · have passed := List.find?_eq_none.mp none e he
      obtain ⟨-, -, -, empty⟩ := law.record e.1
      refine empty ?_
      by_contra busy
      unfold State.configRefusal at passed
      rw [if_pos (by tauto)] at passed
      exact passed rfl
    · obtain ⟨j, -, rfl⟩ := List.mem_map.mp he
      exact RecordConfig.ofData_depthLimit valid

/-- A WRITE keeps the law (R169). -/
theorem PoolLaw.executeWrite {s : State} (law : PoolLaw s) (cls : ItemClass) (q : Request) : PoolLaw (s.executeWrite cls q).1 := by
  cases cls with
  | map => exact law.doWriteMap q
  | recordConfig => exact law.doWriteConfig q
  | shadowSlot => exact law.of_pool (s.writeShadow_pool q)
  | bankLength => exact law.of_pool (s.writeLength_pool q)
  | line => exact law.of_pool (s.doWriteLine_pool q)
  | settings => exact law.of_pool (s.doWriteSettings_pool q)
  | ident | status | port | recordStatus | recordCounters | activeSlot => exact law

/-! ### Record commands (R22 to R28) -/

/-- A command takes the pool from `s` to `t` and, at most, frees buffers of record queues. -/
structure PoolLaw.Frees (s t : State) : Prop where
  law : PoolLaw t
  passQueue : t.passQueue = s.passQueue
  free : s.free ≤ t.free

theorem PoolLaw.frees_of_pool {s t : State} (law : PoolLaw s) (h : t.pool = s.pool) : PoolLaw.Frees s t := by
  obtain ⟨-, free, passQueue, -⟩ := State.pool_eq_iff.mp h
  exact ⟨law.of_pool h, passQueue, free.ge⟩

theorem PoolLaw.frees_setRecord {s : State} {r : RecordIndex} {x : Record} (law : PoolLaw (s.setRecord r x)) :
    PoolLaw.Frees s (s.setRecord r x) := ⟨law, rfl, le_rfl⟩

/-- A record moved to a state that may hold cells. -/
theorem PoolLaw.frees_activate {s : State} (law : PoolLaw s) {r : RecordIndex} {x : Record} (queue : x.queue = (s.record r).queue)
    (config : x.config = (s.record r).config) (holds : ¬x.rests) : PoolLaw.Frees s (s.setRecord r x) := by
  obtain ⟨-, -, fits, -⟩ := law.record r
  exact PoolLaw.frees_setRecord (law.setRecord ((law.record r).refill config holds (queue ▸ fits)) (by rw [queue]))

theorem PoolLaw.frees_stop {s : State} (law : PoolLaw s) (r : RecordIndex) : PoolLaw.Frees s (s.stopRecord r) := by
  refine ⟨PoolLaw.of_pool (law.flush (r := r) ?_ ?_) rfl, rfl, Nat.le_add_right _ _⟩
  · simp [State.flushQueue]
  · simp [State.flushQueue]

/-- The queue of a record that is released is empty already (R27). -/
theorem PoolLaw.frees_release {s : State} (law : PoolLaw s) {r : RecordIndex} (idle : (s.record r).state = .idle) :
    PoolLaw.Frees s (s.releaseRecord r) := by
  obtain ⟨-, -, -, empty⟩ := law.record r
  have released : PoolLaw (s.setRecord r .unused) :=
    law.setRecord Record.unused_withinLimits (by rw [empty (.inr (.inl idle))]; rfl)
  unfold State.releaseRecord
  cases (s.record r).bound <;> exact ⟨released.of_pool rfl, rfl, le_rfl⟩

theorem PoolLaw.doFill {s : State} (law : PoolLaw s) (r : RecordIndex) : PoolLaw.Frees s (s.doFill r).1 := by
  unfold State.doFill
  dsimp only
  cases (s.record r).state with
  | idle | faulted => exact law.frees_activate rfl rfl (by simp)
  | unused | filling | starting | running | paused => exact law.frees_of_pool rfl

theorem PoolLaw.doStart {s : State} (law : PoolLaw s) (r : RecordIndex) : PoolLaw.Frees s (s.doStart r).1 := by
  obtain ⟨started, passQueue, free⟩ :=
    law.frees_activate (r := r) (x := { s.record r with state := .starting, misses := 0 }) rfl rfl (by simp)
  unfold State.doStart
  dsimp only
  cases (s.record r).state with
  | idle | filling | faulted => exact ⟨started, passQueue, free⟩
  | unused | starting | running | paused => exact law.frees_of_pool rfl

theorem PoolLaw.doPause {s : State} (law : PoolLaw s) (r : RecordIndex) : PoolLaw.Frees s (s.doPause r).1 := by
  unfold State.doPause
  dsimp only
  cases (s.record r).state with
  | running => exact law.frees_activate rfl rfl (by simp)
  | unused | idle | filling | starting | paused | faulted => exact law.frees_of_pool rfl

theorem PoolLaw.doResume {s : State} (law : PoolLaw s) (r : RecordIndex) : PoolLaw.Frees s (s.doResume r).1 := by
  unfold State.doResume
  dsimp only
  cases (s.record r).state with
  | paused => exact law.frees_activate rfl rfl (by simp)
  | unused | idle | filling | starting | running | faulted => exact law.frees_of_pool rfl

theorem PoolLaw.doStop {s : State} (law : PoolLaw s) (r : RecordIndex) : PoolLaw.Frees s (s.doStop r).1 := by
  unfold State.doStop
  dsimp only
  cases (s.record r).state with
  | filling | starting | running | paused | faulted => exact law.frees_stop r
  | unused | idle => exact law.frees_of_pool rfl

theorem PoolLaw.doRelease {s : State} (law : PoolLaw s) (r : RecordIndex) : PoolLaw.Frees s (s.doRelease r).1 := by
  unfold State.doRelease
  dsimp only
  cases state : (s.record r).state with
  | idle =>
    dsimp only
    split
    · exact law.frees_of_pool rfl
    · exact law.frees_release state
  | unused | filling | starting | running | paused | faulted => exact law.frees_of_pool rfl

theorem PoolLaw.doClearCounters {s : State} (law : PoolLaw s) (r : RecordIndex) : PoolLaw.Frees s (s.doClearCounters r).1 := by
  unfold State.doClearCounters
  dsimp only
  cases state : (s.record r).state with
  | unused => exact law.frees_of_pool rfl
  | idle | filling | starting | running | paused | faulted =>
    exact PoolLaw.frees_setRecord (law.setRecord_same rfl rfl state.symm)

/-- A record command keeps the law, takes no buffer and leaves the Pass Queue (R22). -/
theorem PoolLaw.executeRecord {s : State} (law : PoolLaw s) (c : RecordCommand) (r : RecordIndex) :
    PoolLaw.Frees s (s.executeRecord c r).1 := by
  cases c with
  | fill => exact law.doFill r
  | start => exact law.doStart r
  | pause => exact law.doPause r
  | resume => exact law.doResume r
  | stop => exact law.doStop r
  | release => exact law.doRelease r
  | clearCounters => exact law.doClearCounters r

/-! ### Resets (R38, R54, R97, R173) -/

theorem poolLaw_reset : PoolLaw State.reset := by
  have empty (r : RecordIndex) : State.reset.record r = Record.unused := by
    simp [State.record, State.reset, State.cleared]
  refine ⟨by decide +kernel, by decide, fun r => ?_⟩
  rw [empty]
  exact Record.unused_withinLimits

theorem PoolLaw.restart (s : State) (straps : Address) (why : StartReason) : PoolLaw (s.restart straps why) := by
  rw [State.restart_eq]
  exact poolLaw_reset.of_pool rfl

theorem PoolLaw.holdPin {s : State} (law : PoolLaw s) : PoolLaw s.holdPin :=
  law.endFlight.of_pool (State.haltEngine_pool _)

/-- The soft reset empties every queue that is not empty already (R38, R54). -/
theorem PoolLaw.softFlush {s : State} (law : PoolLaw s) : PoolLaw s.softFlush := by
  have record (r : RecordIndex) : s.softFlush.record r = (s.record r).softReset := getElem_mapAll _ _ _ _
  have empty (r : RecordIndex) : (s.softFlush.record r).queue = [] := by
    obtain ⟨-, -, -, rests⟩ := law.record r
    rw [record, Record.softReset_eq]
    split
    next unused => exact rests (.inl unused)
    next => rfl
  have none : s.softFlush.queued = 0 := by
    refine List.sum_eq_zero fun n hn => ?_
    obtain ⟨x, hx, rfl⟩ := List.mem_map.mp hn
    obtain ⟨i, hi, rfl⟩ := List.getElem_of_mem hx
    have hi : i < 256 := by simpa using hi
    simpa [State.record, Nat.mod_eq_of_lt hi] using congrArg List.length (empty (BitVec.ofNat 8 i))
  refine ⟨?_, Nat.zero_le _, fun r => (law.record r).empty ?_ (empty r)⟩
  · have free := State.softFlush_free law
    obtain ⟨total, -, -⟩ := law
    rw [none, free]
    show 384 - s.inFlight + 0 + 0 + s.inFlight = 384
    omega
  · rw [record, Record.softReset_eq]
    split <;> rfl

theorem PoolLaw.softReset {s : State} (law : PoolLaw s) : PoolLaw s.softReset :=
  law.softFlush.of_pool ((State.restartLock_pool _).trans (State.haltEngine_pool _))

/-! ### Requests (10) -/

/-- A request's execution keeps the law (R169, R171, R177). -/
theorem PoolLaw.execute {s : State} (law : PoolLaw s) (a : Ask) (q : Request) (straps : Address) :
    PoolLaw (s.execute a q straps).1 := by
  cases a with
  | badOperation | badClass | read cls | clearPortCounters => exact law
  | write cls => exact law.executeWrite cls q
  | record c => exact (law.executeRecord c _).law
  | copy => exact law.of_pool s.askCopy_pool
  | swap => exact law.of_pool (s.askSwap_pool _)
  | swapAt => exact law.of_pool (s.askSwap_pool _)
  | swapCancel => exact law.of_pool s.cancelSwap_pool
  | restartLock => exact law.of_pool s.restartLock_pool
  | resetSoft => exact law.softReset
  | resetFull => exact PoolLaw.restart s straps .full
  | lease o => exact law.of_pool (s.executeLease_pool o q)

/-- What broadcast lets pass takes no buffer and leaves the Pass Queue (R164). -/
theorem PoolLaw.execute_broadcast {s : State} (law : PoolLaw s) {a : Ask} (allowed : a.barredOnBroadcast = false) (q : Request)
    (straps : Address) : PoolLaw.Frees s (s.execute a q straps).1 := by
  cases a with
  | badOperation | badClass | read cls | clearPortCounters => exact law.frees_of_pool rfl
  | record c => exact law.executeRecord c _
  | copy => exact law.frees_of_pool s.askCopy_pool
  | swap => exact law.frees_of_pool (s.askSwap_pool _)
  | swapAt => exact law.frees_of_pool (s.askSwap_pool _)
  | swapCancel => exact law.frees_of_pool s.cancelSwap_pool
  | restartLock => exact law.frees_of_pool s.restartLock_pool
  | write _ | resetSoft | resetFull | lease _ => cases allowed

/-- A request that goes past step 4 on broadcast is not barred there (R164). -/
theorem State.barredOnBroadcast_of_refusalOf {s : State} {a : Ask} {q : Request} (passed : s.refusalOf true a q = none) :
    a.barredOnBroadcast = false := by
  unfold State.refusalOf at passed
  split at passed
  · cases passed
  · by_contra barred
    rw [Bool.true_and, if_pos (by simpa using barred)] at passed
    cases passed

/-- A request that the agent takes, of any form, keeps the law (10). -/
theorem PoolLaw.takeRequest {s : State} (law : PoolLaw s) (broadcast : Bool) (a : Ask) (q : Request) (straps : Address) :
    PoolLaw (s.takeRequest broadcast a q straps) := by
  unfold State.takeRequest State.answer
  split
  · exact law.of_pool (s.dropRequest_pool q)
  · split
    · exact law
    · split
      · exact law
      · exact law.execute a q straps

theorem PoolLaw.takeRequest_broadcast {s : State} (law : PoolLaw s) (a : Ask) (q : Request) (straps : Address) :
    PoolLaw.Frees s (s.takeRequest true a q straps) := by
  unfold State.takeRequest State.answer
  split
  · exact law.frees_of_pool (s.dropRequest_pool q)
  · split
    · exact law.frees_of_pool rfl
    · split
      · exact law.frees_of_pool rfl
      next passed =>
        obtain ⟨kept, passQueue, free⟩ := law.execute_broadcast (State.barredOnBroadcast_of_refusalOf passed) q straps
        exact ⟨kept, passQueue, free⟩

/-- A REQ cell on U-in. The room that a broadcast cell found in the Pass Queue and the pool is still there after the agent has
acted (R139, log 6). -/
theorem PoolLaw.routeRequest {s : State} (law : PoolLaw s) (a : Ask) (c : Cell) (q : Request) (straps : Address) :
    PoolLaw (s.routeRequest a c q straps) := by
  unfold State.routeRequest
  split_ifs
  · obtain ⟨kept, passQueue, free⟩ := law.takeRequest_broadcast a q straps
    refine kept.applyPass c fun room => ?_
    obtain ⟨place, buffer⟩ := State.passVerdict_eq_room.mp room
    exact ⟨passQueue ▸ place, buffer.trans_le free⟩
  · exact law.takeRequest false a q straps
  · exact law.offerPass c

/-! ### Every command -/

theorem PoolLaw.receive {s : State} (law : PoolLaw s) (side : Side) (c : Cell) (straps : Address) :
    PoolLaw (s.receive side c straps) := by
  have good : PoolLaw (s.goodArrival side) := law.of_pool (s.goodArrival_pool side)
  unfold State.receive
  split_ifs
  · exact law
  · exact law.of_pool (s.validArrival_pool side)
  · cases side with
    | uIn =>
      dsimp only
      unfold State.routeUIn
      split_ifs
      · exact good.of_pool (State.takeSync_pool _ _)
      · exact good.takeData c
      · exact good.routeRequest _ c _ straps
      · exact good
      · exact good
    | dIn => exact good.of_pool (State.routeDIn_pool _ c)

theorem PoolLaw.outside {s : State} (law : PoolLaw s) {dt : Nat} {f : State → State} (keeps : ∀ t, PoolLaw t → PoolLaw (f t)) :
    PoolLaw (s.outside dt f) := by
  unfold State.outside
  split
  · exact law
  · exact keeps _ law

theorem PoolLaw.clocked {s : State} (law : PoolLaw s) {f : State → State} (keeps : ∀ t, PoolLaw t → PoolLaw (f t)) :
    PoolLaw (s.clocked f) := by
  unfold State.clocked
  split
  · exact law
  · exact keeps s law

/-- Every request row (R139). -/
theorem PoolLaw.requestArrival {s : State} (law : PoolLaw s) (dt : Nat) (a : Ask) (q : Request) (straps : Address) :
    PoolLaw (s.requestArrival dt a q straps) :=
  law.outside fun t kept => (kept.of_pool (t.goodArrival_pool .uIn)).routeRequest a _ q straps

theorem PoolLaw.lossTimer {s : State} (law : PoolLaw s) (side : Side) : PoolLaw (s.lossTimer side) := by
  unfold State.lossTimer
  split
  · exact law.of_pool (State.loseLink_pool _ side)
  · exact law

theorem PoolLaw.copyTick {s : State} (law : PoolLaw s) : PoolLaw s.copyTick := by
  unfold State.copyTick
  split
  · split <;> exact law
  · exact law
  · exact law

theorem PoolLaw.copyEnd {s : State} (law : PoolLaw s) : PoolLaw s.copyEnd := by
  unfold State.copyEnd
  split
  · split
    · exact law
    · exact law.of_pool (State.offerEvent_pool ..)
  · exact law
  · exact law

theorem PoolLaw.leaseTick {s : State} (law : PoolLaw s) : PoolLaw s.leaseTick := by
  unfold State.leaseTick
  split
  · split <;> exact law
  · exact law

theorem PoolLaw.leaseEnd {s : State} (law : PoolLaw s) : PoolLaw s.leaseEnd := by
  unfold State.leaseEnd
  split
  · split
    · exact law
    · exact law.of_pool (State.expireLease_pool _)
  · exact law

theorem PoolLaw.boundaryDue {s : State} (law : PoolLaw s) : PoolLaw s.boundaryDue := by
  unfold State.boundaryDue
  split
  · exact law.boundary
  · exact law

theorem PoolLaw.slotDue {s : State} (law : PoolLaw s) : PoolLaw s.slotDue := by
  unfold State.slotDue
  split
  · exact law.beginSlot _
  · exact law

theorem PoolLaw.guardDue {s : State} (law : PoolLaw s) : PoolLaw s.guardDue := by
  unfold State.guardDue
  split
  · exact law.beginGuard _
  · exact law

theorem PoolLaw.cellTimeDue {s : State} (law : PoolLaw s) : PoolLaw s.cellTimeDue := by
  unfold State.cellTimeDue
  split
  · exact law.of_pool (State.fillCellTime_pool _ _)
  · exact law

theorem PoolLaw.windowOpenDue {s : State} (law : PoolLaw s) : PoolLaw s.windowOpenDue := by
  unfold State.windowOpenDue
  split
  · split <;> exact law
  · exact law

theorem PoolLaw.windowEndDue {s : State} (law : PoolLaw s) : PoolLaw s.windowEndDue := by
  unfold State.windowEndDue
  split
  · split
    · exact law.of_pool (State.endWindow_pool _ _)
    · exact law
  · exact law

/-- Every command keeps the pool's law. -/
theorem PoolLaw.exec {s : State} (law : PoolLaw s) (c : Instr) : ∃ t, exec c s = .next t ∧ PoolLaw t := by
  cases c with
  | powerOn dt straps => exact ⟨_, rfl, (PoolLaw.restart (s.passTime dt) straps .powerOn).of_pool rfl⟩
  | resetPinRelease dt straps => exact ⟨_, rfl, PoolLaw.restart _ straps .powerOn⟩
  | resetPinAssert dt => exact ⟨_, rfl, PoolLaw.holdPin (s := s.passTime dt) law⟩
  | cellArrival dt side c straps => exact ⟨_, rfl, law.outside fun _ kept => kept.receive side c straps⟩
  | cellCutShort dt side => exact ⟨_, rfl, law.outside fun _ kept => kept⟩
  | dataArrival dt c => exact ⟨_, rfl, law.outside fun t kept => (kept.of_pool (t.goodArrival_pool .uIn)).takeData c⟩
  | syncArrival dt n =>
    exact ⟨_, rfl, law.outside fun t kept => kept.of_pool ((State.takeSync_pool _ n).trans (t.goodArrival_pool .uIn))⟩
  | dInArrival dt c =>
    exact ⟨_, rfl, law.outside fun t kept => kept.of_pool ((State.routeDIn_pool _ c).trans (t.goodArrival_pool .dIn))⟩
  | resetFull dt q straps => exact ⟨_, rfl, law.requestArrival dt .resetFull q straps⟩
  | read dt | write dt | writeMap dt | writeRecordConfig dt | writeShadowSlot dt | writeBankLength dt | writeLine dt
  | writeSettings dt | fill dt | start dt | pause dt | resume dt | stop dt | release dt | clearCounters dt | copy dt | swap dt
  | swapAt dt | swapCancel dt | restartLock dt | clearPortCounters dt | resetSoft dt | acquire dt | renew dt | leaseRelease dt
  | claim dt => exact ⟨_, rfl, law.requestArrival dt _ _ s.straps⟩
  | lossTimerExpiry side => exact ⟨_, rfl, law.clocked fun _ kept => kept.lossTimer side⟩
  | copyStep => exact ⟨_, rfl, law.clocked fun _ kept => kept.copyTick⟩
  | copyCompletion => exact ⟨_, rfl, law.clocked fun _ kept => kept.copyEnd⟩
  | leaseUnitStep => exact ⟨_, rfl, law.clocked fun _ kept => kept.leaseTick⟩
  | leaseExpiry => exact ⟨_, rfl, law.clocked fun _ kept => kept.leaseEnd⟩
  | cycleBoundary => exact ⟨_, rfl, law.clocked fun _ kept => kept.boundaryDue⟩
  | slotStart => exact ⟨_, rfl, law.clocked fun _ kept => kept.slotDue⟩
  | guardStart => exact ⟨_, rfl, law.clocked fun _ kept => kept.guardDue⟩
  | cellTimeStart => exact ⟨_, rfl, law.clocked fun _ kept => kept.cellTimeDue⟩
  | syncWindowOpen => exact ⟨_, rfl, law.clocked fun _ kept => kept.windowOpenDue⟩
  | syncWindowEnd => exact ⟨_, rfl, law.clocked fun _ kept => kept.windowEndDue⟩

/-- A property that the waiting commands have no part in, and that every command keeps, is kept by every step. -/
theorem step_keeps {P : State → Prop} (queue : ∀ s pending, P s → P { s with pending := pending })
    (kept : ∀ c s, P s → ∃ t, exec c s = .next t ∧ P t) {s t : State} (h : P s) (run : step s = .next t) : P t := by
  unfold step at run
  split at run
  · cases run
    exact h
  next c rest _ =>
    obtain ⟨u, next, hu⟩ := kept c _ (queue s rest h)
    rw [next] at run
    cases run
    exact hu

/-- Settles O53: each command keeps the law, by what it does to the queues, the free count and the cell in flight. -/
theorem everyBufferIsAccountedFor : Obligations.EveryBufferIsAccountedFor := fun _ _ law run =>
  step_keeps (P := PoolLaw) (fun _ _ law => law) (fun c _ law => law.exec c) law run

end Sys2Proof.Machine
end

section
/-! LINE writes (06, R103). -/

namespace Sys2Proof.Machine

/-! ### LINE writes: the check -/

@[simp] theorem State.heard_lineJudgement (s : State) (dt : Nat) (side : Side) (q : Request) (j : Nat) :
    (s.heard dt side).lineJudgement q j = s.lineJudgement q j := by
  simp only [State.lineJudgement, State.heard_record]

theorem lineWrites_eq (q : Request) :
    lineWrites q = (List.range q.count.toNat).map fun j => (BitVec.ofNat 3 (q.index j), LineConfig.ofData q.data (9 * j)) := by
  simp only [lineWrites, Request.index_setWidth q _ (show 3 ≤ 16 by omega)]

/-- The model's check of one line is the rule's, whose only refusal is BAD_VALUE. -/
theorem State.lineJudgement_eq (s : State) (q : Request) (j : Nat) :
    s.lineJudgement q j =
      if s.lineRefused (BitVec.ofNat 3 (q.index j), LineConfig.ofData q.data (9 * j)) then some .badValue else none := by
  unfold State.lineJudgement State.lineRefused
  cases LineConfig.ofData q.data (9 * j) with
  | none => rfl
  | some c => cases h : c.source <;> simp [h]

theorem State.lineRefused_eq_false {s : State} {q : Request} {j : Nat} (pass : s.lineJudgement q j = none) :
    s.lineRefused (BitVec.ofNat 3 (q.index j), LineConfig.ofData q.data (9 * j)) = false := by
  simpa [State.lineJudgement_eq] using pass

/-- A line write with a refused line changes nothing and answers for the first one. -/
theorem State.doWriteLine_refused {s : State} {q : Request} {j : Nat} {status : Status} (within : q.within .line)
    (h : firstRefused (s.lineJudgement q) q.count.toNat j status) :
    s.doWriteLine q = (s, .plain status (BitVec.ofNat 16 (q.index j))) := by
  obtain ⟨hj, refused, before⟩ := h
  have index : q.index j < 2 ^ 3 := Request.index_lt within hj
  simp only [State.lineJudgement_eq, Option.ite_none_right_eq_some, Option.some.injEq] at refused
  obtain ⟨bad, rfl⟩ := refused
  have found : (List.range q.count.toNat).find?
      (fun j => s.lineRefused (BitVec.ofNat 3 (q.index j), LineConfig.ofData q.data (9 * j))) = some j := by
    rw [List.find?_range_eq_some]
    exact ⟨bad, List.mem_range.mpr hj, fun i hi => by simp [State.lineRefused_eq_false (before i hi)]⟩
  simp only [State.doWriteLine, lineWrites_eq, List.find?_map, Function.comp_def, found, Option.map_some,
    ofNat_setWidth_of_lt index]

/-! ### LINE writes: the effect -/

/-- The lines after the first `k` named ones are written, line `j` of the write taking the configuration `c j`. -/
def State.linesWritten (s : State) (q : Request) (c : Nat → LineConfig) (k : Nat) : Vector Line 8 :=
  Vector.ofFn fun i =>
    if q.first.toNat ≤ i ∧ i < q.first.toNat + k then (c (i - q.first.toNat)).line else s.lines[i]

theorem State.line_linesWritten (s : State) (q : Request) (c : Nat → LineConfig) (k : Nat) (i : BitVec 3) :
    (s.linesWritten q c k)[i.toNat]'(i.isLt) =
      if q.first.toNat ≤ i.toNat ∧ i.toNat < q.first.toNat + k then (c (i.toNat - q.first.toNat)).line else s.line i :=
  Vector.getElem_ofFn i.isLt

@[simp] theorem State.heard_linesWritten (s : State) (dt : Nat) (side : Side) (q : Request) (c : Nat → LineConfig) (k : Nat) :
    (s.heard dt side).linesWritten q c k = s.linesWritten q c k := by
  simp only [State.linesWritten, State.heard_lines]

/-- One more line written is that line set: the named lines are distinct. -/
theorem State.linesWritten_succ (s : State) {q : Request} (c : Nat → LineConfig) {k : Nat} (fits : q.first.toNat + k < 8) :
    ({ s with lines := s.linesWritten q c k } : State).setLine (BitVec.ofNat 3 (q.index k)) (c k).line =
      { s with lines := s.linesWritten q c (k + 1) } := by
  have place : (BitVec.ofNat 3 (q.index k)).toNat = q.first.toNat + k := (q.eq_index_iff fits _).mp rfl
  simp only [State.setLine, place]
  congr 1
  ext1 i hi
  simp only [State.linesWritten, Vector.getElem_set, Vector.getElem_ofFn]
  split
  next here => rw [if_pos (by omega), show i - q.first.toNat = k by omega]
  next elsewhere => simp only [show i < q.first.toNat + (k + 1) ↔ i < q.first.toNat + k by omega]

theorem State.applyLines_append (s : State) (xs ys : List (BitVec 3 × Option LineConfig)) :
    s.applyLines (xs ++ ys) = (s.applyLines xs).applyLines ys := by
  induction xs generalizing s with
  | nil => rfl
  | cons x xs ih =>
    obtain ⟨i, _ | c⟩ := x <;> exact ih _

theorem State.applyLines_range (s : State) {q : Request} {c : Nat → LineConfig} {k : Nat} (fits : q.first.toNat + k ≤ 8)
    (valid : ∀ j < k, LineConfig.ofData q.data (9 * j) = some (c j)) :
    s.applyLines ((List.range k).map fun j => (BitVec.ofNat 3 (q.index j), LineConfig.ofData q.data (9 * j))) =
      { s with lines := s.linesWritten q c k } := by
  induction k with
  | zero =>
    have untouched : s.linesWritten q c 0 = s.lines := by
      ext1 i hi
      simp only [State.linesWritten, Vector.getElem_ofFn]
      exact if_neg (by omega)
    rw [untouched]; rfl
  | succ k ih =>
    rw [List.range_succ, List.map_append, State.applyLines_append, ih (by omega) fun j hj => valid j (by omega)]
    simp only [List.map_cons, List.map_nil, State.applyLines, valid k (Nat.lt_succ_self k)]
    exact s.linesWritten_succ c fits

/-- The applied value does not count as a change. -/
theorem Line.changedBy_iff (l : Line) (c : LineConfig) : l.changedBy c = true ↔ { c.line with applied := l.applied } ≠ l := by
  obtain ⟨source, bitIndex, polarity, safeLevel, state, applied, staged⟩ := l
  simp only [Line.changedBy, LineConfig.line, Bool.or_eq_true, bne_iff_ne, ne_eq, Line.mk.injEq, not_and_or, true_and,
    Option.isSome_iff_ne_none, eq_comm (a := c.source), eq_comm (a := c.bitIndex), eq_comm (a := c.polarity),
    eq_comm (a := c.safeLevel), eq_comm (a := (none : Option Level)), eq_comm (b := state), or_assoc]

/-- A line write without a refused line is applied, and answers by whether a line changed but for its applied value. -/
theorem State.doWriteLine_applied {s : State} {q : Request} {c : Nat → LineConfig} (within : q.within .line)
    (passed : ∀ j < q.count.toNat, s.lineJudgement q j = none ∧ LineConfig.ofData q.data (9 * j) = some (c j)) :
    s.doWriteLine q = ({ s with lines := s.linesWritten q c q.count.toNat },
      .plain (if ∃ j < q.count.toNat, { (c j).line with applied := (s.line (BitVec.ofNat 3 (q.index j))).applied } ≠
        s.line (BitVec.ofNat 3 (q.index j)) then .ok else .noChange) 0) := by
  obtain ⟨-, -, fits⟩ := within
  have check : (List.range q.count.toNat).find?
      (fun j => s.lineRefused (BitVec.ofNat 3 (q.index j), LineConfig.ofData q.data (9 * j))) = none := by
    rw [List.find?_range_eq_none]
    exact fun j hj => by simp [State.lineRefused_eq_false (passed j hj).1]
  simp only [State.doWriteLine, lineWrites_eq, List.find?_map, Function.comp_def, check, Option.map_none,
    s.applyLines_range fits fun j hj => (passed j hj).2, Answer.ofChange_eq]
  refine congrArg (fun status => (_, Answer.plain status 0)) (if_congr ?_ rfl rfl)
  simp only [List.any_map, List.any_eq_true, List.mem_range, Function.comp_apply]
  exact exists_congr fun j => and_congr_right fun hj => by simp only [(passed j hj).2, Line.changedBy_iff]

theorem LineConfig.line_eq (c : LineConfig) :
    c.line = { source := c.source, bitIndex := c.bitIndex, polarity := c.polarity, safeLevel := c.safeLevel,
               state := if c.source = none then .disabled else .safe, applied := .low, staged := none } := by
  unfold LineConfig.line
  cases c.source <;> rfl

/-- Settles O31: the refusal is the first one that the check finds; each line of an applied write is set once. -/
theorem writeLineSetsLines : Obligations.WriteLineSetsLines := by
  intro s dt q c allowed within made
  have run : exec (.writeLine dt q) s = .next (s.carried dt 1 0xB q fun u =>
      (u.doWriteLine q).1.reply q (u.doWriteLine q).2) :=
    congrArg Host.Outcome.next (s.write_eq dt .line q s.straps allowed rfl within nofun)
  refine ⟨fun j status refused => ?_, fun passed => ?_⟩
  · refine run.trans (congrArg Host.Outcome.next (State.carried_congr ?_))
    rw [State.doWriteLine_refused within (by simpa only [funext (s.heard_lineJudgement dt .uIn q)] using refused)]
    rfl
  · have passed' : ∀ j < q.count.toNat, (s.heard dt .uIn).lineJudgement q j = none ∧
        LineConfig.ofData q.data (9 * j) = some (c j) := by simpa using passed
    have line_made (j : Nat) : (c j).line = made j := (c j).line_eq
    refine ⟨s.linesWritten q c q.count.toNat, run.trans (congrArg Host.Outcome.next (State.carried_congr ?_)), fun i => ?_⟩
    · rw [State.doWriteLine_applied within passed']
      simp only [State.heard_line, State.heard_linesWritten, line_made]
      rfl
    · rw [State.line_linesWritten, line_made]

end Sys2Proof.Machine
end

section
/-! The sync windows of the Cycle Lock (07): their opening and their end (R116, R123, R125, R127). -/

namespace Sys2Proof.Machine

/-! ### The happenings of the two window ticks -/

/-- A happening of the gate's own clock while the reset pin is not held (R11). -/
theorem State.clocked_of_released {s : State} (released : s.pinHeld = false) (f : State → State) : s.clocked f = f s := by
  simp [State.clocked, released]

theorem exec_syncWindowOpen_of_closed {s : State} {w : Window} (released : s.pinHeld = false) (kept : s.lock.window = some w)
    (closed : w.isOpen = false) : exec .syncWindowOpen s = .next (s.openWindow w) := by
  refine congrArg Host.Outcome.next ((State.clocked_of_released released _).trans ?_)
  simp [State.windowOpenDue, kept, closed]

theorem exec_syncWindowEnd_of_open {s : State} {w : Window} (released : s.pinHeld = false) (kept : s.lock.window = some w)
    (opened : w.isOpen = true) : exec .syncWindowEnd s = .next ((s.reach w.ending).endWindow w) := by
  refine congrArg Host.Outcome.next ((State.clocked_of_released released _).trans ?_)
  simp [State.windowEndDue, kept, opened, State.closeWindow]

/-! ### A trim handed for a window's cycle (R5, R118) -/

theorem State.handTrim_eq (s : State) (w : Window) (v : Int) : s.handTrim w v = s.trims w v := by
  unfold State.handTrim State.trims State.boundaryTaken Timer.fileTrim
  by_cases taken : w.boundary ≤ s.timer.start <;> cases position : s.timer.position <;> simp [taken, position]

/-- A trim changes the timer only. -/
theorem State.trims_frame (s : State) (w : Window) (v : Int) : s.trims w v = { s with timer := (s.trims w v).timer } := by
  unfold State.trims
  split <;> rfl

@[simp] theorem State.trims_lock (s : State) (w : Window) (v : Int) : (s.trims w v).lock = s.lock := by
  rw [State.trims_frame]

@[simp] theorem State.trims_settings (s : State) (w : Window) (v : Int) : (s.trims w v).settings = s.settings := by
  rw [State.trims_frame]

@[simp] theorem State.trims_start (s : State) (w : Window) (v : Int) : (s.trims w v).timer.start = s.timer.start := by
  unfold State.trims
  split <;> rfl

/-! ### The window that follows, and a missed window -/

/-- After a window of the current cycle comes that of the cycle which the next boundary begins; it opens no earlier than the
ended one ends, so it is open at once exactly when it opens on that tick (R116). -/
theorem State.fixWindow_eq {s : State} {w : Window} (current : w.boundary = s.timer.start) : s.fixWindow w = s.followed w := by
  have not_earlier : ¬w.boundary < s.timer.start := by omega
  have opens (a : Nat) : max a w.ending ≤ w.ending ↔ max a w.ending = w.ending := by omega
  simp only [State.fixWindow, State.nextWindow, State.followed, if_neg not_earlier, opens]

theorem State.missWindow_acquiring {s : State} (w : Window) (state : s.lock.state = .acquiring) : s.missWindow w = s.unlocks 2 := by
  simp only [State.missWindow, state]
  exact s.loseLock_eq .missed

theorem State.missWindow_tracking {s : State} {w : Window} (current : w.boundary = s.timer.start)
    (state : s.lock.state = .tracking) :
    s.missWindow w = if 1 < s.settings.holdoverLimit then
        ((s.locks .holdover s.lock.acquisition s.lock.excursion 1).followed w).offerEvent .lockState (some 4) (some 2)
      else s.unlocks 4 := by
  simp only [State.missWindow, state]
  exact if_congr Iff.rfl (congrArg (·.reportLock .holdover .missed)
    (State.fixWindow_eq (s := s.locks .holdover s.lock.acquisition s.lock.excursion 1) current)) (s.loseLock_eq .holdoverExpired)

theorem State.missWindow_holdover {s : State} {w : Window} (current : w.boundary = s.timer.start)
    (state : s.lock.state = .holdover) :
    s.missWindow w = if s.settings.holdoverLimit ≤ min (s.lock.holdover + 1) 255 then s.unlocks 4
      else (s.locks .holdover s.lock.acquisition s.lock.excursion (min (s.lock.holdover + 1) 255)).followed w := by
  simp only [State.missWindow, state]
  exact if_congr Iff.rfl (s.loseLock_eq .holdoverExpired) (State.fixWindow_eq
    (s := s.locks .holdover s.lock.acquisition s.lock.excursion (min (s.lock.holdover + 1) 255)) current)

theorem State.endWindow_spent {s : State} {w : Window} (current : w.boundary = s.timer.start) (spent : w.spent = true) :
    s.endWindow w = s.followed w := by
  rw [State.endWindow, if_pos spent, State.fixWindow_eq current]

theorem State.endWindow_unspent (s : State) {w : Window} (unspent : w.spent = false) :
    s.endWindow w = (s.trims w 0).missWindow w := by
  simp [State.endWindow, unspent, State.handTrim_eq]

/-- Settles O22: an end of an unspent window is a trim of 0 and then a missed window, which each lock state answers in its own
way; the trim leaves the lock, the settings and the cycle's start as they were. -/
theorem syncWindowsOpenAndEnd : Obligations.SyncWindowsOpenAndEnd := by
  intro s w released kept
  refine ⟨exec_syncWindowOpen_of_closed released kept, fun opened current => ?_⟩
  have ends := exec_syncWindowEnd_of_open released kept opened
  have current' : w.boundary = (s.reach w.ending).timer.start := current
  have trimmed : w.boundary = ((s.reach w.ending).trims w 0).timer.start := current'.trans (State.trims_start ..).symm
  have lock_eq : ((s.reach w.ending).trims w 0).lock = s.lock := State.trims_lock ..
  have settings_eq : ((s.reach w.ending).trims w 0).settings = s.settings := State.trims_settings ..
  have misses (unspent : w.spent = false) := ends.trans (congrArg Host.Outcome.next (State.endWindow_unspent _ unspent))
  have misses_tracking (unspent : w.spent = false) (state : s.lock.state = .tracking) := (misses unspent).trans
    (congrArg Host.Outcome.next (State.missWindow_tracking trimmed (lock_eq ▸ state)))
  have misses_holdover (unspent : w.spent = false) (state : s.lock.state = .holdover) := (misses unspent).trans
    (congrArg Host.Outcome.next (State.missWindow_holdover trimmed (lock_eq ▸ state)))
  simp only [lock_eq, settings_eq] at misses_tracking misses_holdover
  refine ⟨fun spent => ?spent, fun unspent state => ?acquiring, fun unspent state low => ?holds,
    fun unspent state high => ?expires, fun unspent state reached => ?expired, fun unspent state below => ?lasts⟩
  case spent => exact ends.trans (congrArg Host.Outcome.next (State.endWindow_spent current' spent))
  case acquiring => exact (misses unspent).trans (congrArg Host.Outcome.next (State.missWindow_acquiring w (lock_eq ▸ state)))
  case holds => rw [misses_tracking unspent state, if_pos low]; rfl
  case expires => rw [misses_tracking unspent state, if_neg (Nat.not_lt.mpr high)]; rfl
  case expired => rw [misses_holdover unspent state, if_pos reached]; rfl
  case lasts => rw [misses_holdover unspent state, if_neg (Nat.not_le.mpr below)]; rfl

end Sys2Proof.Machine
end

section
/-! The events the gate reports (09): mask, match, new entry, lost (R153, R154, R156). -/

namespace Sys2Proof.Machine

/-! ### The kinds and objects held -/

/-- The kind and object of every entry of the Event Queue, in the queue's order. -/
def State.eventKeys (s : State) : List (EventKind × Option (BitVec 8)) := s.events.map fun e => (e.kind, e.object)

theorem EventEntry.isOf_iff {e : EventEntry} {k : EventKind} {o : Option (BitVec 8)} :
    e.isOf k o = true ↔ e.kind = k ∧ e.object = o := by
  simp [EventEntry.isOf]

theorem State.mem_eventKeys_iff {s : State} {k : EventKind} {o : Option (BitVec 8)} :
    (k, o) ∈ s.eventKeys ↔ ∃ e ∈ s.events, e.kind = k ∧ e.object = o := by
  simp [State.eventKeys]

/-- The match of R153 looks for the event's key among those held. -/
theorem State.any_isOf_iff_mem_eventKeys {s : State} {k : EventKind} {o : Option (BitVec 8)} :
    s.events.any (·.isOf k o) = true ↔ (k, o) ∈ s.eventKeys := by
  simp only [List.any_eq_true, EventEntry.isOf_iff, State.mem_eventKeys_iff]

/-! ### The four steps of an offer -/

section
variable {s : State} {k : EventKind} (o : Option (BitVec 8)) (a : Option Word16)

theorem State.offerEvent_of_masked (masked : s.masks k = true) : s.offerEvent k o a = s :=
  if_pos masked

variable {o}

theorem State.offerEvent_of_held (unmasked : s.masks k = false) (held : (k, o) ∈ s.eventKeys) :
    s.offerEvent k o a = { s with events := s.events.map fun e => if e.isOf k o then e.fold a else e } := by
  rw [State.offerEvent, unmasked, if_neg Bool.false_ne_true, if_pos (State.any_isOf_iff_mem_eventKeys.mpr held)]

theorem State.offerEvent_of_new (unmasked : s.masks k = false) (new : (k, o) ∉ s.eventKeys)
    (room : s.events.length < Config.eventLimit) :
    s.offerEvent k o a = { s with events := s.events ++
      [{ kind := k, object := o, argument := a, firstCycle := s.timer.number, repeats := 1 }] } := by
  rw [State.offerEvent, unmasked, if_neg Bool.false_ne_true, if_neg (mt State.any_isOf_iff_mem_eventKeys.mp new), if_pos room]

theorem State.offerEvent_of_full (unmasked : s.masks k = false) (new : (k, o) ∉ s.eventKeys)
    (full : Config.eventLimit ≤ s.events.length) :
    s.offerEvent k o a = { s with lost := true } := by
  rw [State.offerEvent, unmasked, if_neg Bool.false_ne_true, if_neg (mt State.any_isOf_iff_mem_eventKeys.mp new),
    if_neg (Nat.not_lt.mpr full)]

end

/-! ### Distinct kinds and objects -/

/-- A fold changes no entry's kind or object. -/
theorem State.eventKeys_fold (s : State) (k : EventKind) (o : Option (BitVec 8)) (a : Option Word16) :
    ({ s with events := s.events.map fun e => if e.isOf k o then e.fold a else e } : State).eventKeys = s.eventKeys := by
  refine List.map_map.trans (List.map_congr_left fun e _ => ?_)
  by_cases matched : e.isOf k o = true <;> simp [matched, EventEntry.fold]

/-- An offer keeps the keys held, but for a key not yet held that it puts at the end. -/
theorem State.eventKeys_offerEvent (s : State) (k : EventKind) (o : Option (BitVec 8)) (a : Option Word16) :
    (s.offerEvent k o a).eventKeys = s.eventKeys ∨
      (k, o) ∉ s.eventKeys ∧ (s.offerEvent k o a).eventKeys = s.eventKeys ++ [(k, o)] := by
  cases mask : s.masks k with
  | true => exact .inl (by rw [State.offerEvent_of_masked o a mask])
  | false =>
    by_cases held : (k, o) ∈ s.eventKeys
    · exact .inl (by rw [State.offerEvent_of_held a mask held, State.eventKeys_fold])
    · rcases Nat.lt_or_ge s.events.length Config.eventLimit with room | full
      · exact .inr ⟨held, by rw [State.offerEvent_of_new a mask held room]; exact List.map_append⟩
      · exact .inl (by rw [State.offerEvent_of_full a mask held full]; rfl)

theorem State.offerEvent_keeps_nodup {s : State} (distinct : s.eventKeys.Nodup) (k : EventKind) (o : Option (BitVec 8))
    (a : Option Word16) : (s.offerEvent k o a).eventKeys.Nodup := by
  obtain same | ⟨new, added⟩ := s.eventKeys_offerEvent k o a
  · rwa [same]
  · rw [added, ← List.concat_eq_append]
    exact distinct.concat new

/-- Settles O16: the first clause is the frame of an offer, the next four are its four steps, the last is that a step adds no key
already held. -/
theorem eventsAreOfferedInOrder : Obligations.EventsAreOfferedInOrder := by
  intro s k o a
  dsimp only
  rw [← State.mem_eventKeys_iff]
  refine ⟨s.offerEvent_changes k o a, fun masked => ?masked, fun unmasked held => ?held, fun unmasked new room => ?new,
    fun unmasked new full => ?full, fun distinct => State.offerEvent_keeps_nodup distinct k o a⟩
  case masked => rw [State.offerEvent_of_masked o a masked]; exact ⟨rfl, rfl⟩
  case held =>
    rw [State.offerEvent_of_held a unmasked held]
    simp only [EventEntry.isOf_iff, EventEntry.fold, and_self]
  case new => rw [State.offerEvent_of_new a unmasked new room]; exact ⟨rfl, rfl⟩
  case full => rw [State.offerEvent_of_full a unmasked new full]; exact ⟨rfl, rfl⟩

end Sys2Proof.Machine
end

section
/-! The Edit Lease's own clock (11): the unit steps and the expiry (R176, R183). -/

namespace Sys2Proof.Machine

/-! ### A countdown above 1 and a countdown at 1 -/

/-- The step of a HELD lease whose countdown stays above 0 (R176). -/
theorem State.leaseTick_of_above {s : State} {n : Nat} (held : s.lease.state = .held) (count : s.lease.countdown = some n)
    (above : 1 < n) : s.leaseTick = (s.reach s.lease.stepTick).setLease (s.lease.unitStep n) := by
  simp only [State.leaseTick, held, count, if_pos above]

/-- The step of a HELD lease whose countdown comes to 0 (R183). -/
theorem State.leaseEnd_of_last {s : State} {n : Nat} (held : s.lease.state = .held) (count : s.lease.countdown = some n)
    (last : n ≤ 1) : s.leaseEnd = (s.reach s.lease.stepTick).expireLease := by
  simp only [State.leaseEnd, held, count, if_neg (Nat.not_lt.mpr last)]

/-- An expiry names the holder whose grant has ended, and then ends the grant (R183). -/
theorem State.expireLease_eq {s : State} {h : Manager} (holder : s.lease.holder = some h) :
    s.expireLease = (s.offerEvent .leaseExpired (some (h.setWidth 8)) none).grantEnds := by
  have named : s.reportExpiry = s.offerEvent .leaseExpired (some (h.setWidth 8)) none := by
    rw [State.reportExpiry, holder]; rfl
  rw [State.expireLease, State.handOver_eq, named]

/-! ### The two happenings -/

theorem exec_leaseUnitStep_of_above {s : State} {n : Nat} (released : s.pinHeld = false) (held : s.lease.state = .held)
    (count : s.lease.countdown = some n) (above : 1 < n) :
    exec .leaseUnitStep s = .next ((s.reach s.lease.stepTick).setLease (s.lease.unitStep n)) :=
  congrArg Host.Outcome.next ((State.clocked_of_released released _).trans (State.leaseTick_of_above held count above))

theorem exec_leaseExpiry_of_last {s : State} {n : Nat} (released : s.pinHeld = false) (held : s.lease.state = .held)
    (count : s.lease.countdown = some n) (last : n ≤ 1) :
    exec .leaseExpiry s = .next (s.reach s.lease.stepTick).expireLease :=
  congrArg Host.Outcome.next ((State.clocked_of_released released _).trans (State.leaseEnd_of_last held count last))

/-- Settles O46: a countdown above 1 takes the unit step, a countdown at 1 the expiry, each at the tick of the next unit step. -/
theorem unitStepsAndExpiry : Obligations.UnitStepsAndExpiry := by
  intro s h n released held holder count
  refine ⟨fun above => ?steps, fun last => ?expires⟩
  case steps => exact exec_leaseUnitStep_of_above released held count above
  case expires =>
    have ends := exec_leaseExpiry_of_last released held count last.le
    have holder_eq : (s.reach s.lease.stepTick).lease.holder = some h := holder
    rw [ends, State.expireLease_eq holder_eq]; rfl

end Sys2Proof.Machine
end
section
/-! SYNC cells as the rules of chapter 07 say: seeding, measurement and slips (R114 to R126). -/

namespace Sys2Proof.Machine

/-! ### The parts of a measurement (R118, R119, R120) -/

theorem State.phaseError_eq (s : State) (w : Window) : s.phaseError w = s.phase w := by
  simp [State.phaseError, State.phase]

theorem clampTrim_eq (e : Int) : clampTrim e = limited e := by
  unfold clampTrim limited Config.trimLimit
  split_ifs <;> omega

theorem State.inLock_iff (s : State) (w : Window) : s.inLock w = true ↔ s.isInLock w := by
  rw [State.inLock, State.phaseError_eq, decide_eq_true_iff]

theorem State.expectedNumber_eq (s : State) (w : Window) : s.expectedNumber w = s.expects w := by
  unfold State.expectedNumber State.expects State.boundaryTaken Timer.nextCycle
  cases s.timer.nextNumber <;> simp

theorem State.slip_eq (s : State) (w : Window) (n : Word16) : s.slip w n = s.slips w n := by
  unfold State.slip State.slips Timer.renumber State.boundaryTaken
  rw [State.expectedNumber_eq]
  by_cases taken : w.boundary ≤ s.timer.start <;> simp [taken]

theorem State.applyTrim_eq (s : State) (w : Window) : s.applyTrim w = s.trims w (limited (s.phase w)) := by
  rw [State.applyTrim, State.handTrim_eq, clampTrim_eq, State.phaseError_eq]

/-- A seed places the boundary at its tick, moved on when that falls into the slot in progress (R120). -/
theorem State.seed_eq (s : State) (n : Word16) : s.seed n = s.seeds n := by
  unfold State.seed State.seeds
  dsimp only
  rw [State.haltEngine_eq]
  unfold State.seedTick State.windowAt Timer.place Timer.untrimmed Timer.slotEnd Config.cellTime
  cases s.timer.position with
  | guard => rfl
  | slot k =>
    dsimp only
    by_cases early : s.now + (s.timer.length * 512 + s.timer.guardBase) - s.settings.latency < s.timer.start + (k + 1) * 512
    · simp only [early, if_true, decide_true]; rfl
    · simp only [early, if_false, decide_false, Bool.false_eq_true]; rfl

/-- An arrival in a TRACKING or HOLDOVER window before the counts are judged: the window spent, a slip, the trim of the phase
error (R118, R119). -/
def State.measured (s : State) (w : Window) (n : Word16) : State :=
  ((s.spends w).slips w n).trims w (limited (s.phase w))

theorem State.slips_changes (s : State) (w : Window) (n : Word16) :
    s.slips w n = { s with timer := (s.slips w n).timer, events := (s.slips w n).events, lost := (s.slips w n).lost } := by
  unfold State.slips
  split
  · rfl
  · split <;> rw [State.offerEvent_changes]

theorem State.measured_changes (s : State) (w : Window) (n : Word16) :
    s.measured w n = { s with
      timer := (s.measured w n).timer, lock := { s.lock with window := some { w with spent := true } },
      events := (s.measured w n).events, lost := (s.measured w n).lost } := by
  unfold State.measured
  rw [State.trims_frame, State.slips_changes]
  rfl

theorem State.measured_eq (s : State) (w : Window) (n : Word16) :
    ((s.spendWindow w).slip w n).applyTrim w = s.measured w n := by
  have phase : ((s.spends w).slips w n).phase w = s.phase w := by
    rw [State.slips_changes]; rfl
  rw [State.slip_eq, State.applyTrim_eq, State.measured, ← phase]
  rfl

/-! ### The states of the lock (R121 to R126) -/

/-- R121, R122. -/
theorem State.measureAcquiring_eq (s : State) (w : Window) (n : Word16) :
    s.measureAcquiring w n =
      if n = s.expects w ∧ s.isInLock w then
        if 3 ≤ s.lock.acquisition + 1 then
          (((s.spends w).trims w (limited (s.phase w))).locks .tracking (s.lock.acquisition + 1) 0 0).offerEvent
            .lockState (some 3) (some 1)
        else ((s.spends w).trims w (limited (s.phase w))).locks s.lock.state (s.lock.acquisition + 1) s.lock.excursion
          s.lock.holdover
      else s.seeds n := by
  have lock : (((s.spends w).trims w (limited (s.phase w)))).lock = (s.spends w).lock := State.trims_lock ..
  have trimmed : (s.spendWindow w).applyTrim w = (s.spends w).trims w (limited (s.phase w)) := State.applyTrim_eq _ w
  unfold State.measureAcquiring
  simp only [State.expectedNumber_eq, State.seed_eq, State.inLock_iff, trimmed, lock]
  unfold State.locks
  rw [lock]
  rfl

/-- R124. -/
theorem State.measureTracking_eq (s : State) (w : Window) (n : Word16) :
    s.measureTracking w n =
      if s.isInLock w then (s.measured w n).locks s.lock.state s.lock.acquisition 0 s.lock.holdover
      else if 3 ≤ s.lock.excursion + 1 then (s.measured w n).unlocks 3
      else (s.measured w n).locks s.lock.state s.lock.acquisition (s.lock.excursion + 1) s.lock.holdover := by
  unfold State.measureTracking
  dsimp only
  rw [State.measured_eq, State.loseLock_eq, State.measured_changes]
  simp only [State.inLock_iff]
  rfl

/-- R126. -/
theorem State.measureHoldover_eq (s : State) (w : Window) (n : Word16) :
    s.measureHoldover w n =
      if s.isInLock w then
        ((s.measured w n).locks .tracking s.lock.acquisition 0 0).offerEvent .lockState (some 3) (some 5)
      else if 3 ≤ s.lock.excursion + 1 then (s.measured w n).unlocks 3
      else if s.settings.holdoverLimit ≤ min (s.lock.holdover + 1) 255 then (s.measured w n).unlocks 4
      else (s.measured w n).locks s.lock.state s.lock.acquisition (s.lock.excursion + 1) (min (s.lock.holdover + 1) 255) := by
  unfold State.measureHoldover
  dsimp only
  rw [State.measured_eq, State.loseLock_eq, State.loseLock_eq, State.measured_changes]
  simp only [State.inLock_iff]
  rfl

end Sys2Proof.Machine
end
section
/-! The SYNC statements (07). -/

namespace Sys2Proof.Machine

/-! ### Which measurement a SYNC cell gets (R114, R117, R120) -/

/-- An outside happening while the reset pin is not held. -/
theorem State.outside_of_released {s : State} (released : s.pinHeld = false) (dt : Nat) (f : State → State) :
    s.outside dt f = f (s.passTime dt) := by
  simp [State.outside, released]

theorem exec_syncArrival_of_released {s : State} (released : s.pinHeld = false) (dt : Nat) (n : Word16) :
    exec (.syncArrival dt n) s = .next ((s.heard dt .uIn).takeSync n) :=
  congrArg Host.Outcome.next ((State.outside_of_released released dt _).trans
    (congrArg (State.takeSync · n) (s.goodArrival_eq dt .uIn)))

theorem State.takeSync_loc {s : State} (source : s.settings.source = .loc) (n : Word16) :
    s.takeSync n = s.count .syncIgnored := by
  simp only [State.takeSync, source]

theorem State.takeSync_seeking {s : State} (source : s.settings.source = .line) (state : s.lock.state = .seeking) (n : Word16) :
    s.takeSync n = s.seeds n := by
  simp only [State.takeSync, source, state, State.seed_eq]

theorem Window.takes_iff (w : Window) : (w.isOpen && !w.spent) = true ↔ w.takes := by
  simp [Window.takes]

theorem State.takeSync_outside {s : State} (source : s.settings.source = .line)
    (state : s.lock.state = .acquiring ∨ s.lock.state = .tracking ∨ s.lock.state = .holdover)
    (closed : ∀ w ∈ s.lock.window, ¬w.takes) (n : Word16) : s.takeSync n = s.outsideWindow := by
  cases kept : s.lock.window with
  | none => rcases state with state | state | state <;> simp only [State.takeSync, source, state, kept]
  | some w =>
    have shut := closed w kept
    rw [← Window.takes_iff] at shut
    rcases state with state | state | state <;> simp only [State.takeSync, source, state, kept, if_neg shut]

section
variable {s : State} {w : Window} (source : s.settings.source = .line) (kept : s.lock.window = some w) (takes : w.takes)
  (n : Word16)
include source kept takes

theorem State.takeSync_acquiring (state : s.lock.state = .acquiring) : s.takeSync n = s.measureAcquiring w n := by
  simp only [State.takeSync, source, state, kept, if_pos ((Window.takes_iff w).mpr takes)]

theorem State.takeSync_tracking (state : s.lock.state = .tracking) : s.takeSync n = s.measureTracking w n := by
  simp only [State.takeSync, source, state, kept, if_pos ((Window.takes_iff w).mpr takes)]

theorem State.takeSync_holdover (state : s.lock.state = .holdover) : s.takeSync n = s.measureHoldover w n := by
  simp only [State.takeSync, source, state, kept, if_pos ((Window.takes_iff w).mpr takes)]

end

/-- What a SYNC cell can do at all: count itself, seed, or be measured in a window that takes it. -/
theorem State.takeSync_cases {s : State} {n : Word16} {motive : State → Prop} (counted : ∀ f, motive (s.count f))
    (seeded : s.settings.source = .line → s.lock.state = .seeking → motive (s.seeds n))
    (acquiring : ∀ w, s.settings.source = .line → s.lock.window = some w → s.lock.state = .acquiring →
      motive (s.measureAcquiring w n))
    (tracking : ∀ w, s.lock.window = some w → s.lock.state = .tracking → motive (s.measureTracking w n))
    (holdover : ∀ w, s.lock.window = some w → s.lock.state = .holdover → motive (s.measureHoldover w n)) :
    motive (s.takeSync n) := by
  cases source : s.settings.source with
  | loc => rw [State.takeSync_loc source]; exact counted _
  | line =>
    have judged (windowed : s.lock.state ∈ [.acquiring, .tracking, .holdover])
        (inside : ∀ w, s.lock.window = some w → w.takes → motive (s.takeSync n)) : motive (s.takeSync n) := by
      by_cases closed : ∀ w ∈ s.lock.window, ¬w.takes
      · rw [State.takeSync_outside source (by simpa using windowed) closed]; exact counted _
      · push Not at closed
        obtain ⟨w, kept, takes⟩ := closed
        exact inside w kept takes
    cases state : s.lock.state with
    | free => simp only [State.takeSync, source, state]; exact counted _
    | seeking => rw [State.takeSync_seeking source state]; exact seeded source state
    | acquiring =>
      refine judged (by simp [state]) fun w kept takes => ?_
      rw [State.takeSync_acquiring source kept takes n state]; exact acquiring w source kept state
    | tracking =>
      refine judged (by simp [state]) fun w kept takes => ?_
      rw [State.takeSync_tracking source kept takes n state]; exact tracking w kept state
    | holdover =>
      refine judged (by simp [state]) fun w kept takes => ?_
      rw [State.takeSync_holdover source kept takes n state]; exact holdover w kept state

/-! ### The statements -/

/-- Settles O17: LOCAL mode and the arrival outside any window each only count. -/
theorem syncCellsIgnored : Obligations.SyncCellsIgnored := by
  intro s dt n released
  refine ⟨fun source => ?_, fun source state closed => ?_⟩
  · rw [exec_syncArrival_of_released released, State.takeSync_loc (by simpa using source)]
    rfl
  · rw [exec_syncArrival_of_released released, State.takeSync_outside (by simpa using source) (by simpa using state)
      (by simpa using closed)]
    rfl

/-- Settles O18: SEEKING seeds at once, ACQUIRING where the measurement fails. -/
theorem syncCellsSeed : Obligations.SyncCellsSeed := by
  intro s dt n released source
  have source' : (s.heard dt .uIn).settings.source = .line := by simpa using source
  refine ⟨fun state => ?_, fun w state kept takes fails => ?_⟩
  · rw [exec_syncArrival_of_released released, State.takeSync_seeking source' (by simpa using state)]
  · rw [exec_syncArrival_of_released released, State.takeSync_acquiring source' (by simpa using kept) takes n (by simpa using state),
      State.measureAcquiring_eq, if_neg (by tauto)]

/-- Settles O19: a measurement that succeeds counts towards the third. -/
theorem syncCellsAcquire : Obligations.SyncCellsAcquire := by
  intro s dt n w released source state kept takes u matched inLock t
  have run : exec (.syncArrival dt n) s = .next (u.measureAcquiring w n) := by
    rw [exec_syncArrival_of_released released,
      State.takeSync_acquiring (by simpa using source) (by simpa using kept) takes n (by simpa using state)]
  have lock : u.lock = s.lock := State.heard_lock ..
  rw [run, State.measureAcquiring_eq, if_pos ⟨matched, inLock⟩, lock, state]
  refine ⟨fun below => ?_, fun reached => ?_⟩
  · rw [if_neg (by omega)]
  · rw [if_pos reached]

/-- Settles O20: the arrival is measured, and its excursion judged. -/
theorem syncCellsTrack : Obligations.SyncCellsTrack := by
  intro s dt n w released source state kept takes u t
  have run : exec (.syncArrival dt n) s = .next (u.measureTracking w n) := by
    rw [exec_syncArrival_of_released released,
      State.takeSync_tracking (by simpa using source) (by simpa using kept) takes n (by simpa using state)]
  have lock : u.lock = s.lock := State.heard_lock ..
  rw [run, State.measureTracking_eq, lock, state]
  refine ⟨fun inLock => ?_, fun out below => ?_, fun out third => ?_⟩
  · rw [if_pos inLock]; rfl
  · rw [if_neg out, if_neg (by omega)]; rfl
  · rw [if_neg out, if_pos third]; rfl

/-- Settles O21: the arrival is measured; in lock it recovers, else the excursion is judged before the holdover. -/
theorem syncCellsRecover : Obligations.SyncCellsRecover := by
  intro s dt n w released source state kept takes u t h
  have run : exec (.syncArrival dt n) s = .next (u.measureHoldover w n) := by
    rw [exec_syncArrival_of_released released,
      State.takeSync_holdover (by simpa using source) (by simpa using kept) takes n (by simpa using state)]
  have lock : u.lock = s.lock := State.heard_lock ..
  have settings : u.settings = s.settings := State.heard_settings ..
  rw [run, State.measureHoldover_eq, lock, state]
  refine ⟨fun inLock => ?_, fun out third => ?_, fun out below expired => ?_, fun out below lasts => ?_⟩
  · rw [if_pos inLock]; rfl
  · rw [if_neg out, if_pos third]; rfl
  · rw [if_neg out, if_neg (by omega), if_pos (settings.symm ▸ expired)]; rfl
  · rw [if_neg out, if_neg (by omega), if_neg (settings.symm ▸ Nat.not_le.mpr lasts)]; rfl

end Sys2Proof.Machine
end
section
/-! The footprint of each composite operation: the items of the state that it can change at all. -/

namespace Sys2Proof.Machine

/-! ### Arrivals -/

theorem State.applyPass_changes (s : State) (v : PassVerdict) (c : Cell) :
    s.applyPass v c = { s with
      free := (s.applyPass v c).free, passQueue := (s.applyPass v c).passQueue, ports := (s.applyPass v c).ports,
      events := (s.applyPass v c).events, lost := (s.applyPass v c).lost } := by
  unfold State.applyPass State.poolExhausted
  cases v with
  | room | queueFull => rfl
  | poolEmpty => dsimp only; rw [State.offerEvent_changes]; rfl

/-- A refusal for want of a buffer (R45, R46). -/
theorem State.poolExhausted_changes (s : State) :
    s.poolExhausted = { s with events := s.poolExhausted.events, lost := s.poolExhausted.lost } :=
  State.offerEvent_changes ..

theorem State.offerRecord_changes (s : State) (r : RecordIndex) (c : Cell) :
    s.offerRecord r c = { s with
      records := (s.offerRecord r c).records, free := (s.offerRecord r c).free, events := (s.offerRecord r c).events,
      lost := (s.offerRecord r c).lost } := by
  have place : s.placeCell r c = { s with
      records := (s.placeCell r c).records, free := (s.placeCell r c).free, events := (s.placeCell r c).events,
      lost := (s.placeCell r c).lost } := by
    unfold State.placeCell
    dsimp only
    split
    · split
      · rfl
      · split
        · rfl
        · rw [State.poolExhausted_changes]; rfl
    · split <;> rfl
  unfold State.offerRecord
  cases (s.record r).state with
  | filling | starting | running | paused => exact place
  | idle | faulted | unused => rfl

theorem State.takeData_changes (s : State) (c : Cell) :
    s.takeData c = { s with
      records := (s.takeData c).records, free := (s.takeData c).free, passQueue := (s.takeData c).passQueue,
      ports := (s.takeData c).ports, events := (s.takeData c).events, lost := (s.takeData c).lost } := by
  unfold State.takeData
  split
  · unfold State.offerPass; rw [State.applyPass_changes]
  · rfl
  · rw [State.offerRecord_changes]

/-! ### The Cycle Lock (07) -/

theorem State.halts_changes (s : State) : s.halts = { s with engine := s.halts.engine, lines := s.halts.lines } := by
  unfold State.halts
  split <;> rfl

theorem State.unlocks_changes (s : State) (why : Word16) :
    s.unlocks why = { s with
      engine := (s.unlocks why).engine, lines := (s.unlocks why).lines, lock := Lock.cleared .seeking,
      events := (s.unlocks why).events, lost := (s.unlocks why).lost } := by
  unfold State.unlocks
  rw [State.offerEvent_changes, State.halts_changes]
  rfl

theorem State.restartLock_changes (s : State) :
    s.restartLock = { s with
      engine := s.restartLock.engine, lines := s.restartLock.lines, lock := s.restartLock.lock,
      events := s.restartLock.events, lost := s.restartLock.lost } := by
  unfold State.restartLock
  split
  · rw [State.loseLock_eq, State.unlocks_changes]
  · unfold State.reportLock; rw [State.offerEvent_changes]

theorem State.seeds_changes (s : State) (n : Word16) :
    s.seeds n = { s with
      timer := (s.seeds n).timer, engine := (s.seeds n).engine, lines := (s.seeds n).lines, lock := (s.seeds n).lock,
      events := (s.seeds n).events, lost := (s.seeds n).lost } := by
  unfold State.seeds
  dsimp only
  rw [State.offerEvent_changes, State.halts_changes]

/-- What a SYNC cell may change: the timer, the lock, the engine with its lines, the port counters and the Event Queue. -/
def State.SyncedFrom (s t : State) : Prop :=
  t = { s with
    timer := t.timer, engine := t.engine, lines := t.lines, lock := t.lock, ports := t.ports, events := t.events,
    lost := t.lost }

theorem State.syncedFrom_of_measured (s : State) (w : Window) (n : Word16) (t : State)
    (h : (s.measured w n).SyncedFrom t) : s.SyncedFrom t := by
  rw [State.SyncedFrom, State.measured_changes] at h
  exact h

theorem State.unlocks_syncedFrom (s : State) (why : Word16) : s.SyncedFrom (s.unlocks why) := by
  rw [State.SyncedFrom, State.unlocks_changes]

theorem State.locks_syncedFrom (s : State) (state : LockState) (a e h : Nat) : s.SyncedFrom (s.locks state a e h) := rfl

theorem State.locks_offerEvent_syncedFrom (s : State) (state : LockState) (a e h : Nat) (k : EventKind) (o : Option (BitVec 8))
    (v : Option Word16) : s.SyncedFrom ((s.locks state a e h).offerEvent k o v) := by
  rw [State.SyncedFrom, State.offerEvent_changes]; rfl

theorem State.trims_syncedFrom (s : State) (w : Window) (v : Int) (t : State) (h : ((s.spends w).trims w v).SyncedFrom t) :
    s.SyncedFrom t := by
  rw [State.SyncedFrom, State.trims_frame] at h
  exact h

theorem State.seeds_syncedFrom (s : State) (n : Word16) : s.SyncedFrom (s.seeds n) := by
  rw [State.SyncedFrom, State.seeds_changes]

theorem State.measureAcquiring_syncedFrom (s : State) (w : Window) (n : Word16) : s.SyncedFrom (s.measureAcquiring w n) := by
  rw [State.measureAcquiring_eq]
  split_ifs
  · exact s.trims_syncedFrom w _ _ (State.locks_offerEvent_syncedFrom ..)
  · exact s.trims_syncedFrom w _ _ (State.locks_syncedFrom ..)
  · exact s.seeds_syncedFrom n

theorem State.measureTracking_syncedFrom (s : State) (w : Window) (n : Word16) : s.SyncedFrom (s.measureTracking w n) := by
  rw [State.measureTracking_eq]
  split_ifs <;> apply s.syncedFrom_of_measured w n
  · exact State.locks_syncedFrom ..
  · exact State.unlocks_syncedFrom ..
  · exact State.locks_syncedFrom ..

theorem State.measureHoldover_syncedFrom (s : State) (w : Window) (n : Word16) : s.SyncedFrom (s.measureHoldover w n) := by
  rw [State.measureHoldover_eq]
  split_ifs <;> apply s.syncedFrom_of_measured w n
  · exact State.locks_offerEvent_syncedFrom ..
  · exact State.unlocks_syncedFrom ..
  · exact State.unlocks_syncedFrom ..
  · exact State.locks_syncedFrom ..

theorem State.takeSync_changes (s : State) (n : Word16) :
    s.takeSync n = { s with
      timer := (s.takeSync n).timer, engine := (s.takeSync n).engine, lines := (s.takeSync n).lines,
      lock := (s.takeSync n).lock, ports := (s.takeSync n).ports, events := (s.takeSync n).events,
      lost := (s.takeSync n).lost } :=
  State.takeSync_cases (motive := s.SyncedFrom) (fun _ => rfl) (fun _ _ => s.seeds_syncedFrom n)
    (fun w _ _ _ => s.measureAcquiring_syncedFrom w n) (fun w _ _ => s.measureTracking_syncedFrom w n)
    (fun w _ _ => s.measureHoldover_syncedFrom w n)

theorem State.missWindow_changes (s : State) (w : Window) :
    s.missWindow w = { s with
      engine := (s.missWindow w).engine, lines := (s.missWindow w).lines, lock := (s.missWindow w).lock,
      events := (s.missWindow w).events, lost := (s.missWindow w).lost } := by
  unfold State.missWindow State.reportLock
  split
  · rw [State.loseLock_eq, State.unlocks_changes]
  · split
    · rw [State.offerEvent_changes]; rfl
    · rw [State.loseLock_eq, State.unlocks_changes]
  · split
    · rw [State.loseLock_eq, State.unlocks_changes]
    · rfl
  · rfl
  · rfl

/-- The end of a window changes the timer, the lock, the engine with its lines, and the Event Queue (R116). -/
theorem State.endWindow_changes (s : State) (w : Window) :
    s.endWindow w = { s with
      timer := (s.endWindow w).timer, engine := (s.endWindow w).engine, lines := (s.endWindow w).lines,
      lock := (s.endWindow w).lock, events := (s.endWindow w).events, lost := (s.endWindow w).lost } := by
  unfold State.endWindow
  split
  · rfl
  · rw [State.missWindow_changes]; rfl

/-! ### The Edit Lease (11) -/

theorem State.grant_changes (s : State) (m : Manager) :
    s.grant m = { s with lease := (s.grant m).lease, events := (s.grant m).events, lost := (s.grant m).lost } := by
  unfold State.grant
  dsimp only
  rw [State.offerEvent_changes]; rfl

theorem State.handOver_changes (s : State) :
    s.handOver = { s with lease := s.handOver.lease, events := s.handOver.events, lost := s.handOver.lost } := by
  unfold State.handOver
  split
  · rw [State.grant_changes]
  · rfl

theorem State.expireLease_changes (s : State) :
    s.expireLease = { s with lease := s.expireLease.lease, events := s.expireLease.events, lost := s.expireLease.lost } := by
  unfold State.expireLease State.reportExpiry
  rw [State.handOver_changes, State.offerEvent_changes]

theorem State.executeLease_changes (s : State) (o : LeaseOperation) (q : Request) :
    (s.executeLease o q).1 = { s with
      lease := (s.executeLease o q).1.lease, events := (s.executeLease o q).1.events, lost := (s.executeLease o q).1.lost } := by
  cases o with
  | acquire =>
    unfold State.executeLease State.doAcquire
    dsimp only
    split
    · exact State.grant_changes ..
    · split <;> rfl
  | renew =>
    unfold State.executeLease State.doRenew
    dsimp only
    split <;> rfl
  | release =>
    unfold State.executeLease State.doLeaseRelease
    dsimp only
    split
    · rfl
    · exact State.handOver_changes s
  | claim =>
    unfold State.executeLease State.doClaim
    dsimp only
    split
    · exact State.grant_changes ..
    · split
      · rfl
      · split
        · dsimp only; rw [State.offerEvent_changes]; rfl
        · split <;> rfl

/-! ### Writes (R18, R20, R60, R61, R103, R170) -/

theorem State.applyMap_changes (s : State) (writes : List (StreamId × Word16)) :
    s.applyMap writes = { s with map := (s.applyMap writes).map, records := (s.applyMap writes).records } := by
  induction writes generalizing s with
  | nil => rfl
  | cons write writes ih =>
    unfold State.applyMap
    split
    · rw [ih, State.rebind_changes]
    · rw [ih]

theorem State.doWriteMap_changes (s : State) (q : Request) :
    (s.doWriteMap q).1 = { s with map := (s.doWriteMap q).1.map, records := (s.doWriteMap q).1.records } := by
  unfold State.doWriteMap
  dsimp only
  split
  · rfl
  · exact State.applyMap_changes ..

theorem State.applyConfigs_changes (s : State) (writes : List (RecordIndex × Option RecordConfig)) :
    s.applyConfigs writes = { s with records := (s.applyConfigs writes).records } := by
  induction writes generalizing s with
  | nil => rfl
  | cons write writes ih =>
    obtain ⟨r, _ | c⟩ := write
    · exact ih s
    · exact (ih (s.setRecord r ((s.record r).configure c)) :)

theorem State.doWriteConfig_changes (s : State) (q : Request) :
    (s.doWriteConfig q).1 = { s with records := (s.doWriteConfig q).1.records } := by
  unfold State.doWriteConfig
  dsimp only
  split
  · rfl
  · exact State.applyConfigs_changes ..

theorem State.applyLines_changes (s : State) (writes : List (BitVec 3 × Option LineConfig)) :
    s.applyLines writes = { s with lines := (s.applyLines writes).lines } := by
  induction writes generalizing s with
  | nil => rfl
  | cons write writes ih =>
    obtain ⟨i, _ | c⟩ := write
    · exact ih s
    · exact (ih (s.setLine i c.line) :)

theorem State.doWriteLine_changes (s : State) (q : Request) :
    (s.doWriteLine q).1 = { s with lines := (s.doWriteLine q).1.lines } := by
  unfold State.doWriteLine
  dsimp only
  split
  · rfl
  · exact State.applyLines_changes ..

theorem State.writeShadow_changes (s : State) (q : Request) :
    (s.writeShadow q).1 = { s with banks := (s.writeShadow q).1.banks } := by
  unfold State.writeShadow
  split
  · rfl
  · rfl
  · dsimp only; split <;> rfl

theorem State.writeLength_changes (s : State) (q : Request) :
    (s.writeLength q).1 = { s with banks := (s.writeLength q).1.banks } := by
  unfold State.writeLength
  split
  · rfl
  · rfl
  · dsimp only; split <;> rfl

theorem State.doWriteSettings_changes (s : State) (q : Request) :
    (s.doWriteSettings q).1 = { s with
      settings := (s.doWriteSettings q).1.settings, engine := (s.doWriteSettings q).1.engine,
      lines := (s.doWriteSettings q).1.lines, lock := (s.doWriteSettings q).1.lock,
      events := (s.doWriteSettings q).1.events, lost := (s.doWriteSettings q).1.lost } := by
  unfold State.doWriteSettings
  split
  · rfl
  · split
    · rfl
    · dsimp only
      split
      · rfl
      · rw [State.restartLock_changes]

/-! ### Commands on banks and records (R22, R62, R66, R71) -/

theorem State.askCopy_changes (s : State) : s.askCopy.1 = { s with banks := s.askCopy.1.banks } := by
  unfold State.askCopy
  split <;> rfl

theorem State.askSwap_changes (s : State) (target : SwapTarget) :
    (s.askSwap target).1 = { s with banks := (s.askSwap target).1.banks } := by
  unfold State.askSwap
  split
  · rfl
  · rfl
  · split <;> rfl

theorem State.cancelSwap_changes (s : State) : s.cancelSwap.1 = { s with banks := s.cancelSwap.1.banks } := by
  unfold State.cancelSwap
  split <;> rfl

theorem State.executeRecord_changes (s : State) (c : RecordCommand) (r : RecordIndex) :
    (s.executeRecord c r).1 = { s with
      map := (s.executeRecord c r).1.map, records := (s.executeRecord c r).1.records, free := (s.executeRecord c r).1.free,
      lines := (s.executeRecord c r).1.lines } := by
  cases c with
  | fill => unfold State.executeRecord State.doFill; dsimp only; split <;> rfl
  | start => unfold State.executeRecord State.doStart; dsimp only; split <;> rfl
  | pause => unfold State.executeRecord State.doPause; dsimp only; split <;> rfl
  | resume => unfold State.executeRecord State.doResume; dsimp only; split <;> rfl
  | stop => unfold State.executeRecord State.doStop; dsimp only; split <;> rfl
  | clearCounters => unfold State.executeRecord State.doClearCounters; dsimp only; split <;> rfl
  | release =>
    have released : s.releaseRecord r = { s with
        map := (s.releaseRecord r).map, records := (s.releaseRecord r).records, lines := (s.releaseRecord r).lines } := by
      unfold State.releaseRecord
      cases (s.record r).bound <;> rfl
    unfold State.executeRecord State.doRelease
    dsimp only
    cases (s.record r).state with
    | idle =>
      dsimp only
      split
      · rfl
      · dsimp only; rw [released]
    | unused | filling | starting | running | paused | faulted => rfl

/-! ### Resets (R38, R97, R172) -/

theorem State.holdPin_changes (s : State) :
    s.holdPin = { s with
      free := s.holdPin.free, dOut := none, engine := s.holdPin.engine, lines := s.holdPin.lines, uOut := none,
      pinHeld := true } := by
  unfold State.holdPin
  rw [State.haltEngine_changes, State.endFlight_eq]

theorem State.softReset_changes (s : State) :
    s.softReset = { s with
      records := mapAll Record.softReset s.records, free := s.softReset.free, passQueue := [], engine := s.softReset.engine,
      lines := s.softReset.lines, banks := s.banks.softReset, lock := s.softReset.lock, through := [],
      events := s.softReset.events, lost := s.softReset.lost, replies := [], cache := Vector.replicate 4 none,
      lastWinner := .own } := by
  unfold State.softReset
  dsimp only
  rw [State.restartLock_changes, State.haltEngine_eachLine_halt]
  rfl

/-! ### Slots and cell times (R82, R149) -/

/-- What a slot's filling is made of: cells sent and buffers freed, a record changed in no more than its queue, misses, last value
and counters, and, for a RUNNING record while the engine runs, its lines staged or the record faulted. -/
structure State.FillKeeps (P : State → Prop) : Prop where
  sends {s : State} (free : Nat) (passQueue : List Cell) (dOut : Option Flight) :
    P s → P { s with free := free, passQueue := passQueue, dOut := dOut }
  record {s : State} {r : RecordIndex} {x : Record} :
    P s → x.state = (s.record r).state → x.bound = (s.record r).bound → P (s.setRecord r x)
  stage {s : State} {r : RecordIndex} (p : Payload) :
    P s → s.engine = .running → (s.record r).state = .running → P (s.stage r p)
  fault {s : State} {r : RecordIndex} : P s → (s.record r).state = .running → P (s.faultRecord r)

namespace State.FillKeeps

variable {P : State → Prop} (keeps : State.FillKeeps P) {s : State} {r : RecordIndex}
include keeps

theorem servePass (law : P s) : P s.servePass := by
  rw [State.servePass_changes]
  exact keeps.sends s.free _ _ law

theorem followPolicy (law : P s) (counts : Bool) : P (s.followPolicy r counts) := by
  unfold State.followPolicy
  dsimp only
  split
  · exact keeps.sends s.free s.passQueue _ law
  · exact keeps.servePass law
  · split
    · cases counts with
      | true => exact keeps.sends s.free s.passQueue _ (keeps.record (x := (s.record r).countRepeated) law rfl rfl)
      | false => exact keeps.sends s.free s.passQueue _ law
    · exact keeps.sends s.free s.passQueue _ law

omit keeps in
/-- The miss policy's cell leaves every record in its state. -/
theorem state_followPolicy (counts : Bool) (r' : RecordIndex) :
    ((s.followPolicy r counts).record r').state = (s.record r').state := by
  unfold State.followPolicy
  dsimp only
  split
  · rfl
  · rw [State.record_congr (s.servePass_records)]
  · split
    · cases counts with
      | true =>
        refine (congrArg Record.state (State.record_setRecord s r r' (s.record r).countRepeated)).trans ?_
        split
        next same => rw [same]; rfl
        · rfl
      | false => rfl
    · rfl

theorem miss (law : P s) (running : (s.record r).state = .running) : P (s.miss r) := by
  have counted := keeps.record (r := r) (x := { (s.record r).countMissed with misses := saturate (s.record r).misses }) law rfl rfl
  have sent := keeps.followPolicy (r := r) counted true
  unfold State.miss
  dsimp only
  split
  · refine keeps.fault sent ?_
    rw [state_followPolicy, State.record_setRecord_same]
    exact running
  · exact sent

theorem releaseHead (law : P s) (engine : s.engine = .running) (running : (s.record r).state = .running) (c : Cell)
    (rest : List Cell) : P (s.releaseHead r c rest) := by
  have released := keeps.record (r := r) (x := (s.record r).release c rest) law rfl rfl
  have still : ((s.setRecord r ((s.record r).release c rest)).record r).state = .running := by
    rw [State.record_setRecord_same]; exact running
  unfold State.releaseHead
  dsimp only
  split
  · exact keeps.sends s.free s.passQueue _ released
  · exact keeps.stage c.payload (keeps.sends s.free s.passQueue _ released) engine still
  · exact keeps.servePass (keeps.stage c.payload (keeps.sends (s.free + 1) s.passQueue s.dOut released) engine still)

theorem judge (law : P s) (engine : s.engine = .running) (running : (s.record r).state = .running) : P (s.judge r) := by
  have purged : P (s.purge r) := keeps.record (keeps.sends _ s.passQueue s.dOut law) rfl rfl
  have still : ((s.purge r).record r).state = .running := by
    rw [State.purge, State.record_setRecord_same]; exact running
  unfold State.judge
  dsimp only
  split
  · exact keeps.miss purged still
  · split
    · exact keeps.releaseHead purged engine still _ _
    · refine keeps.miss (keeps.record purged rfl rfl) ?_
      rw [State.record_setRecord_same]; exact still

/-- What the parts of a slot's filling keep, the filling of a slot keeps (R80, R84, R85). -/
theorem fillSlot (law : P s) (k : Nat) : P (s.fillSlot k) := by
  unfold State.fillSlot State.fillByEntry State.fillReserved
  split
  · exact keeps.servePass law
  next engine =>
    split
    · exact keeps.servePass law
    · exact keeps.sends s.free s.passQueue _ law
    next r _ =>
      cases state : (s.record r).state with
      | running => exact keeps.judge law engine state
      | idle | filling | starting | paused => exact keeps.followPolicy law false
      | faulted => cases (s.record r).config.missPolicy with
        | yieldSlot => exact keeps.servePass law
        | idleCell | repeatLast => exact keeps.sends s.free s.passQueue _ law
      | unused => exact keeps.sends s.free s.passQueue _ law

end State.FillKeeps

/-- What a slot's filling may change: the records, the free count, the Pass Queue, the cell in flight, the lines and the Event
Queue. -/
def State.FilledFrom (s t : State) : Prop :=
  t = { s with
    records := t.records, free := t.free, passQueue := t.passQueue, dOut := t.dOut, lines := t.lines, events := t.events,
    lost := t.lost }

theorem State.FilledFrom.refl (s : State) : s.FilledFrom s := rfl

theorem State.FilledFrom.trans {s t u : State} (h : s.FilledFrom t) (h' : t.FilledFrom u) : s.FilledFrom u := by
  rw [State.FilledFrom] at h h'
  rw [h] at h'
  exact h'

theorem State.faultRecord_filledFrom (s : State) (r : RecordIndex) : s.FilledFrom (s.faultRecord r) := by
  unfold State.faultRecord
  dsimp only
  rw [State.FilledFrom, State.offerEvent_changes]
  rfl

theorem State.filledFrom_fillKeeps (s : State) : State.FillKeeps s.FilledFrom where
  sends _ _ _ filled := filled.trans rfl
  record filled _ _ := filled.trans rfl
  stage _ filled _ _ := filled.trans rfl
  fault filled _ := filled.trans (State.faultRecord_filledFrom _ _)

/-- A slot's start changes the tick, the position, the records, the pool, the cell in flight on D-out, the lines and the Event
Queue (R82). -/
theorem State.beginSlot_changes (s : State) (k : Nat) :
    s.beginSlot k = { s with
      now := max s.now (s.timer.slotTick k), timer := { s.timer with position := .slot k }, records := (s.beginSlot k).records,
      free := (s.beginSlot k).free, passQueue := (s.beginSlot k).passQueue, dOut := (s.beginSlot k).dOut,
      lines := (s.beginSlot k).lines, events := (s.beginSlot k).events, lost := (s.beginSlot k).lost } := by
  have filled := (State.filledFrom_fillKeeps (((s.reach (s.timer.slotTick k)).endSlot).atPosition (.slot k))).fillSlot (.refl _) k
  rw [State.FilledFrom, State.endSlot_eq] at filled
  unfold State.beginSlot
  rw [State.endSlot_eq]
  exact filled

theorem State.fillSlotZero_changes (s : State) :
    s.fillSlotZero = { s with passQueue := s.fillSlotZero.passQueue, dOut := s.fillSlotZero.dOut } := by
  unfold State.fillSlotZero
  split
  · exact s.servePass_changes
  · rfl

theorem State.promote_changes (s : State) :
    s.promote = { s with records := s.promote.records, events := s.promote.events, lost := s.promote.lost } := by
  unfold State.promote
  split
  · rfl
  · rw [State.offerEach_changes]

theorem State.decideEngine_changes (s : State) :
    s.decideEngine = { s with engine := s.decideEngine.engine, lines := s.decideEngine.lines } := by
  unfold State.decideEngine
  split
  · rfl
  · rw [State.haltEngine_changes]

theorem State.reportSwap_changes (s : State) (taken : Bool) :
    s.reportSwap taken = { s with events := (s.reportSwap taken).events, lost := (s.reportSwap taken).lost } := by
  unfold State.reportSwap
  split
  · rw [State.offerEvent_changes]
  · rfl

/-- U-out's cell time changes the cell in flight on U-out and the stores that it comes from (R149). -/
theorem State.fillCellTime_changes (s : State) (k : Nat) :
    s.fillCellTime k = { s with
      through := (s.fillCellTime k).through, replies := (s.fillCellTime k).replies, events := (s.fillCellTime k).events,
      lost := (s.fillCellTime k).lost, lastWinner := (s.fillCellTime k).lastWinner, uOut := (s.fillCellTime k).uOut } := by
  have own (o : OwnCandidate) : s.sendOwn o = { s with
      through := (s.sendOwn o).through, replies := (s.sendOwn o).replies, events := (s.sendOwn o).events,
      lost := (s.sendOwn o).lost, lastWinner := (s.sendOwn o).lastWinner, uOut := (s.sendOwn o).uOut } := by
    cases o <;> rfl
  unfold State.fillCellTime State.arbitrate
  split
  · rfl
  · split
    · exact own _
    · rfl
    · split
      · rfl
      · exact own _

theorem Banks.takenAt_eq (b : Banks) (n : Word16) : b.condition.takenAt n = b.swapsAt n := by
  unfold ShadowCondition.takenAt Banks.swapsAt
  cases b.condition with
  | free | copying => rfl
  | swapPending target => cases target <;> rfl

theorem Bank.valid_iff (b : Bank) : b.valid = true ↔ 8 ≤ b.length ∧ b.length ≤ 1024 := decide_eq_true_iff

theorem Bank.cycleLength_eq (b : Bank) :
    b.cycleLength = if 8 ≤ b.length ∧ b.length ≤ 1024 then b.length else 256 := if_congr b.valid_iff rfl rfl

theorem Banks.atBoundary_eq (b : Banks) (n : Word16) : b.atBoundary n = if b.swapsAt n then b.exchange else b := by
  rw [Banks.atBoundary, Banks.takenAt_eq]

/-- A boundary up to the engine's decision, as its rules say (R3, R4, R5, R7, R68). -/
theorem State.turns_eq (s : State) :
    (((s.reach s.timer.boundaryTick).endFlight.turnCycle).reportSwap
      ((s.reach s.timer.boundaryTick).endFlight.banks.condition.takenAt
        (s.reach s.timer.boundaryTick).endFlight.timer.nextCycle)) = s.turns := by
  simp only [State.endFlight_eq, Banks.takenAt_eq, State.turnCycle, State.reportSwap, Timer.boundary, Bank.cycleLength_eq,
    Banks.atBoundary_eq, State.turns, Timer.nextCycle, Timer.boundaryTick, State.reach_timer, State.reach_banks]
  cases s.timer.nextNumber <;> cases s.timer.placement <;> cases s.timer.nextTrim <;> rfl

theorem State.boundary_eq (s : State) : s.boundary = s.turns.decideEngine.promote.fillSlotZero := by
  rw [← State.turns_eq]; rfl

/-- The turn of a cycle, but for the Event Queue. -/
theorem State.turns_changes (s : State) :
    s.turns = { s with
      now := max s.now s.timer.boundaryTick
      free := s.free + s.inFlight, dOut := none, uBegun := 0
      banks := s.banks.atBoundary s.timer.nextCycle
      timer := s.timer.boundary (s.banks.atBoundary s.timer.nextCycle).active.cycleLength s.settings.guard
      events := s.turns.events, lost := s.turns.lost } := by
  rw [← State.turns_eq, State.reportSwap_changes, State.endFlight_eq]
  rfl

/-- A boundary, but for the records, the pool, the engine with its lines, the cell in flight on D-out and the Event Queue (R7). -/
theorem State.boundary_changes (s : State) :
    s.boundary = { s with
      now := max s.now s.timer.boundaryTick
      timer := s.timer.boundary (s.banks.atBoundary s.timer.nextCycle).active.cycleLength s.settings.guard
      banks := s.banks.atBoundary s.timer.nextCycle, uBegun := 0
      records := s.boundary.records, free := s.boundary.free, passQueue := s.boundary.passQueue, engine := s.boundary.engine
      dOut := s.boundary.dOut, lines := s.boundary.lines, events := s.boundary.events, lost := s.boundary.lost } := by
  rw [State.boundary_eq, State.fillSlotZero_changes, State.promote_changes, State.decideEngine_changes, State.turns_changes]

theorem State.beginGuard_changes (s : State) (t : Nat) :
    s.beginGuard t = { s with
      now := max s.now t, timer := { s.timer with position := .guard }, free := s.free + s.inFlight, dOut := none,
      lines := mapAll Line.applies s.lines, uOut := none } := by
  unfold State.beginGuard
  rw [State.endSlot_eq]
  rfl

end Sys2Proof.Machine
end
section
/-! What a law has to be kept by, so that every command keeps it: the parts that the commands are made of. -/

namespace Sys2Proof.Machine

/-- What an executed request can do: each of its arms, the refusing ones leaving the state as it is (R163 to R166). -/
theorem State.execute_cases {motive : State → Prop} (s : State) (a : Ask) (q : Request) (straps : Address) (same : motive s)
    (map : motive (s.doWriteMap q).1) (config : motive (s.doWriteConfig q).1)
    (shadow : a = .write .shadowSlot → motive (s.writeShadow q).1) (length : motive (s.writeLength q).1)
    (line : motive (s.doWriteLine q).1) (settings : motive (s.doWriteSettings q).1)
    (record : ∀ c r, motive (s.executeRecord c r).1) (copy : motive s.askCopy.1) (swap : ∀ target, motive (s.askSwap target).1)
    (cancel : motive s.cancelSwap.1) (lock : motive s.restartLock) (ports : motive s.doClearPorts.1)
    (soft : motive s.softReset) (full : motive (s.restart straps .full)) (lease : ∀ o, motive (s.executeLease o q).1) :
    motive (s.execute a q straps).1 := by
  cases a with
  | badOperation | badClass | read => exact same
  | clearPortCounters => exact ports
  | write cls =>
    cases cls with
    | map => exact map
    | recordConfig => exact config
    | shadowSlot => exact shadow rfl
    | bankLength => exact length
    | line => exact line
    | settings => exact settings
    | ident | status | port | recordStatus | recordCounters | activeSlot => exact same
  | record c => exact record c _
  | copy => exact copy
  | swap => exact swap _
  | swapAt => exact swap _
  | swapCancel => exact cancel
  | restartLock => exact lock
  | resetSoft => exact soft
  | resetFull => exact full
  | lease o => exact lease o

/-- No execution touches the waiting commands or lengthens the Reply Queue: the reply comes after it (R167). -/
theorem State.execute_queues (s : State) (a : Ask) (q : Request) (straps : Address) :
    (s.execute a q straps).1.pending = s.pending ∧
      (s.execute a q straps).1.replies.length ≤ s.replies.length := by
  refine State.execute_cases (motive := fun t => t.pending = s.pending ∧ t.replies.length ≤ s.replies.length) s a q straps
    (same := ⟨rfl, le_rfl⟩) (ports := ⟨rfl, le_rfl⟩) ?map ?config (fun _ => ?shadow) ?length ?line ?settings
    (fun _ _ => ?record) ?copy (fun _ => ?swap) ?cancel ?lock ?soft ?full fun _ => ?lease
  case map => rw [State.doWriteMap_changes]; exact ⟨rfl, le_rfl⟩
  case config => rw [State.doWriteConfig_changes]; exact ⟨rfl, le_rfl⟩
  case shadow => rw [State.writeShadow_changes]; exact ⟨rfl, le_rfl⟩
  case length => rw [State.writeLength_changes]; exact ⟨rfl, le_rfl⟩
  case line => rw [State.doWriteLine_changes]; exact ⟨rfl, le_rfl⟩
  case settings => rw [State.doWriteSettings_changes]; exact ⟨rfl, le_rfl⟩
  case record => rw [State.executeRecord_changes]; exact ⟨rfl, le_rfl⟩
  case copy => rw [State.askCopy_changes]; exact ⟨rfl, le_rfl⟩
  case swap => rw [State.askSwap_changes]; exact ⟨rfl, le_rfl⟩
  case cancel => rw [State.cancelSwap_changes]; exact ⟨rfl, le_rfl⟩
  case lock => rw [State.restartLock_changes]; exact ⟨rfl, le_rfl⟩
  case soft => rw [State.softReset_changes]; exact ⟨rfl, Nat.zero_le _⟩
  case full => rw [State.restart_eq]; exact ⟨rfl, Nat.zero_le _⟩
  case lease => rw [State.executeLease_changes]; exact ⟨rfl, le_rfl⟩

/-- A property of states that every part of a command keeps. A part that runs under a condition may use it. -/
structure Keeps (P : State → Prop) : Prop where
  tick {s : State} {t : Nat} : P s → s.now ≤ t → P { s with now := t }
  pin {s : State} : P s → P { s with pinHeld := true }
  restart {s : State} (straps : Address) (why : StartReason) : P s → P (s.restart straps why)
  holdPin {s : State} : P s → P s.holdPin
  link {s : State} (side : Side) (l : Link) : P s → P (s.setLink side l)
  count {s : State} (f : PortCounters → PortCounters) : P s → P (s.count f)
  event {s : State} (k : EventKind) (o : Option (BitVec 8)) (a : Option Word16) : P s → P (s.offerEvent k o a)
  through {s : State} (c : Cell) : P s → s.through.length < 32 → P { s with through := s.through ++ [c] }
  takeData {s : State} (c : Cell) : P s → P (s.takeData c)
  takeSync {s : State} (n : Word16) : P s → P (s.takeSync n)
  pass {s : State} (v : PassVerdict) (c : Cell) : P s → P (s.applyPass v c)
  execute {s : State} {broadcast : Bool} {a : Ask} {q : Request} (straps : Address) :
    P s → s.refusalOf broadcast a q = none → P (s.execute a q straps).1
  push {s : State} (r : Reply) : P s → s.replies.length < 16 → P (s.pushReply r)
  cache {s : State} (r : Reply) : P s → P (s.cacheReply r)
  copyStep {s : State} {takenAt done : Nat} :
    P s → s.banks.condition = .copying takenAt done → done + 1 < 64 → P (s.withBanks (·.copyStep takenAt done))
  finishCopy {s : State} {takenAt done : Nat} :
    P s → s.banks.condition = .copying takenAt done → 64 ≤ done + 1 → P (s.withBanks (·.finishCopy done))
  unitStep {s : State} {n : Nat} :
    P s → s.lease.state = .held → s.lease.countdown = some n → 1 < n → P (s.setLease (s.lease.unitStep n))
  expireLease {s : State} : P s → s.lease.state = .held → P s.expireLease
  boundary {s : State} : P s → P s.boundary
  beginSlot {s : State} {k : Nat} : P s → s.nextSlot = some k → P (s.beginSlot k)
  beginGuard {s : State} (t : Nat) : P s → P (s.beginGuard t)
  cellTime {s : State} {k : Nat} :
    P s → s.nextCellTime = some k → P (({ s with uBegun := k + 1 } : State).fillCellTime k)
  openWindow {s : State} {w : Window} :
    P s → s.lock.window = some w → P { s with lock := { s.lock with window := some { w with isOpen := true } } }
  endWindow {s : State} {w : Window} : P s → s.lock.window = some w → P (s.endWindow w)

namespace Keeps

variable {P : State → Prop} (keeps : Keeps P) {s : State}
include keeps

/-! ### Ticks -/

theorem reach (law : P s) (t : Nat) : P (s.reach t) := keeps.tick law (Nat.le_max_left ..)

theorem outside {dt : Nat} {f : State → State} (law : P s) (kept : ∀ t, P t → P (f t)) : P (s.outside dt f) := by
  have passed : P (s.passTime dt) := keeps.tick law (Nat.le_add_right ..)
  unfold State.outside
  split
  · exact passed
  · exact kept _ passed

omit keeps in
theorem clocked {f : State → State} (law : P s) (kept : P (f s)) : P (s.clocked f) := by
  unfold State.clocked
  split
  · exact law
  · exact kept

/-! ### Arrivals -/

theorem validArrival (law : P s) (side : Side) : P (s.validArrival side) := by
  have linked := keeps.link side { status := .up, lastValid := some s.now } law
  unfold State.validArrival
  dsimp only
  split
  · exact linked
  · exact keeps.event _ _ _ linked

theorem goodArrival (law : P s) (side : Side) : P (s.goodArrival side) := keeps.count _ (keeps.validArrival law side)

theorem routeDIn (law : P s) (c : Cell) : P (s.routeDIn c) := by
  unfold State.routeDIn State.offerThrough
  split_ifs with _ room
  · exact keeps.through c law room
  · exact keeps.event _ _ _ (keeps.count _ law)
  · exact keeps.count _ law
  · exact law

/-! ### Requests (10) -/

theorem takeRequest (law : P s) (broadcast : Bool) (a : Ask) (q : Request) (straps : Address) :
    P (s.takeRequest broadcast a q straps) := by
  unfold State.takeRequest State.answer
  split
  · exact keeps.event _ _ _ (keeps.count _ law)
  next room =>
    have room : s.replies.length < 16 := Nat.not_le.mp room
    split
    · exact keeps.push _ law room
    · split
      · exact keeps.cache _ (keeps.push _ law room)
      next passed =>
        exact keeps.cache _ (keeps.push _ (keeps.execute straps law passed)
          ((s.execute_queues a q straps).2.trans_lt room))

theorem routeRequest (law : P s) (a : Ask) (c : Cell) (q : Request) (straps : Address) : P (s.routeRequest a c q straps) := by
  unfold State.routeRequest
  split_ifs
  · exact keeps.pass _ _ (keeps.takeRequest law true a q straps)
  · exact keeps.takeRequest law false a q straps
  · exact keeps.pass _ _ law

theorem requestArrival (law : P s) (dt : Nat) (a : Ask) (q : Request) (straps : Address) :
    P (s.requestArrival dt a q straps) :=
  keeps.outside law fun _ kept => keeps.routeRequest (keeps.goodArrival kept .uIn) a _ q straps

theorem receive (law : P s) (side : Side) (c : Cell) (straps : Address) : P (s.receive side c straps) := by
  have good := keeps.goodArrival law side
  unfold State.receive
  split_ifs
  · exact keeps.count _ law
  · exact keeps.count _ (keeps.validArrival law side)
  · cases side with
    | uIn =>
      dsimp only
      unfold State.routeUIn
      split_ifs
      · exact keeps.takeSync _ good
      · exact keeps.takeData c good
      · exact keeps.routeRequest good _ c _ straps
      · exact keeps.count _ good
      · exact good
    | dIn => exact keeps.routeDIn good c

/-! ### The gate's own clock -/

theorem lossTimer (law : P s) (side : Side) : P (s.lossTimer side) := by
  unfold State.lossTimer
  split
  · exact keeps.event _ _ _ (keeps.link side _ (keeps.reach law _))
  · exact law

theorem copyTick (law : P s) : P s.copyTick := by
  unfold State.copyTick
  split
  next copying =>
    split
    next more => exact keeps.copyStep (keeps.reach law _) copying more
    · exact law
  · exact law
  · exact law

theorem copyEnd (law : P s) : P s.copyEnd := by
  unfold State.copyEnd
  split
  next copying =>
    split
    · exact law
    next last => exact keeps.event _ _ _ (keeps.finishCopy (keeps.reach law _) copying (Nat.not_lt.mp last))
  · exact law
  · exact law

theorem leaseTick (law : P s) : P s.leaseTick := by
  unfold State.leaseTick
  split
  next held count =>
    split
    next above => exact keeps.unitStep (keeps.reach law _) held count above
    · exact law
  · exact law

theorem leaseEnd (law : P s) : P s.leaseEnd := by
  unfold State.leaseEnd
  split
  next held _ =>
    split
    · exact law
    · exact keeps.expireLease (keeps.reach law _) held
  · exact law

theorem boundaryDue (law : P s) : P s.boundaryDue := by
  unfold State.boundaryDue
  split
  · exact keeps.boundary law
  · exact law

theorem slotDue (law : P s) : P s.slotDue := by
  unfold State.slotDue
  split
  next next => exact keeps.beginSlot law next
  · exact law

theorem guardDue (law : P s) : P s.guardDue := by
  unfold State.guardDue
  split
  · exact keeps.beginGuard _ law
  · exact law

theorem cellTimeDue (law : P s) : P s.cellTimeDue := by
  unfold State.cellTimeDue
  split
  next next => exact keeps.cellTime (keeps.reach law _) next
  · exact law

theorem windowOpenDue (law : P s) : P s.windowOpenDue := by
  unfold State.windowOpenDue
  split
  next kept =>
    split
    · exact law
    · exact keeps.openWindow (keeps.reach law _) kept
  · exact law

theorem windowEndDue (law : P s) : P s.windowEndDue := by
  unfold State.windowEndDue
  split
  next kept =>
    split
    · exact keeps.endWindow (keeps.reach law _) kept
    · exact law
  · exact law

/-! ### Every command -/

/-- What every part keeps, every command keeps. -/
theorem exec (law : P s) (c : Instr) : ∃ t, exec c s = .next t ∧ P t := by
  have passed (dt : Nat) : P (s.passTime dt) := keeps.tick law (Nat.le_add_right ..)
  cases c with
  | powerOn dt straps => exact ⟨_, rfl, keeps.pin (keeps.restart straps .powerOn (passed dt))⟩
  | resetPinRelease dt straps => exact ⟨_, rfl, keeps.restart straps .powerOn (passed dt)⟩
  | resetPinAssert dt => exact ⟨_, rfl, keeps.holdPin (passed dt)⟩
  | cellArrival dt side c straps => exact ⟨_, rfl, keeps.outside law fun _ kept => keeps.receive kept side c straps⟩
  | cellCutShort dt side => exact ⟨_, rfl, keeps.outside law fun _ kept => keeps.count _ kept⟩
  | dataArrival dt c => exact ⟨_, rfl, keeps.outside law fun _ kept => keeps.takeData c (keeps.goodArrival kept .uIn)⟩
  | syncArrival dt n => exact ⟨_, rfl, keeps.outside law fun _ kept => keeps.takeSync n (keeps.goodArrival kept .uIn)⟩
  | dInArrival dt c => exact ⟨_, rfl, keeps.outside law fun _ kept => keeps.routeDIn (keeps.goodArrival kept .dIn) c⟩
  | resetFull dt q straps => exact ⟨_, rfl, keeps.requestArrival law dt .resetFull q straps⟩
  | read dt | write dt | writeMap dt | writeRecordConfig dt | writeShadowSlot dt | writeBankLength dt | writeLine dt
  | writeSettings dt | fill dt | start dt | pause dt | resume dt | stop dt | release dt | clearCounters dt | copy dt | swap dt
  | swapAt dt | swapCancel dt | restartLock dt | clearPortCounters dt | resetSoft dt | acquire dt | renew dt | leaseRelease dt
  | claim dt => exact ⟨_, rfl, keeps.requestArrival law dt _ _ s.straps⟩
  | lossTimerExpiry side => exact ⟨_, rfl, clocked law (keeps.lossTimer law side)⟩
  | copyStep => exact ⟨_, rfl, clocked law (keeps.copyTick law)⟩
  | copyCompletion => exact ⟨_, rfl, clocked law (keeps.copyEnd law)⟩
  | leaseUnitStep => exact ⟨_, rfl, clocked law (keeps.leaseTick law)⟩
  | leaseExpiry => exact ⟨_, rfl, clocked law (keeps.leaseEnd law)⟩
  | cycleBoundary => exact ⟨_, rfl, clocked law (keeps.boundaryDue law)⟩
  | slotStart => exact ⟨_, rfl, clocked law (keeps.slotDue law)⟩
  | guardStart => exact ⟨_, rfl, clocked law (keeps.guardDue law)⟩
  | cellTimeStart => exact ⟨_, rfl, clocked law (keeps.cellTimeDue law)⟩
  | syncWindowOpen => exact ⟨_, rfl, clocked law (keeps.windowOpenDue law)⟩
  | syncWindowEnd => exact ⟨_, rfl, clocked law (keeps.windowEndDue law)⟩

/-- A law that every part keeps, and that the waiting commands have no part in, is kept by every step. -/
theorem step {t : State} (queue : ∀ s pending, P s → P { s with pending := pending }) (law : P s) (run : step s = .next t) : P t :=
  step_keeps queue (fun c _ law => keeps.exec law c) law run

end Keeps

end Sys2Proof.Machine
end
section
/-! Every command completes, and leaves the waiting commands as they are. -/

namespace Sys2Proof.Machine

/-- No part of a command touches the waiting commands. -/
theorem keeps_pending (waiting : List Instr) : Keeps fun s => s.pending = waiting where
  tick law _ := law
  pin law := law
  restart straps why law := by rw [State.restart_eq]; exact law
  holdPin law := by rw [State.holdPin_changes]; exact law
  link side l law := (State.setLink_pending ..).trans law
  count f law := law
  event k o a law := (State.offerEvent_pending ..).trans law
  through c law _ := law
  takeData c law := by rw [State.takeData_changes]; exact law
  takeSync n law := by rw [State.takeSync_changes]; exact law
  pass v c law := by rw [State.applyPass_changes]; exact law
  execute straps law _ := (State.execute_queues ..).1.trans law
  push r law _ := law
  cache r law := law
  copyStep law _ _ := law
  finishCopy law _ _ := law
  unitStep law _ _ _ := law
  expireLease law _ := by rw [State.expireLease_changes]; exact law
  boundary law := by rw [State.boundary_changes]; exact law
  beginSlot law _ := by rw [State.beginSlot_changes]; exact law
  beginGuard t law := by rw [State.beginGuard_changes]; exact law
  cellTime law _ := by rw [State.fillCellTime_changes]; exact law
  openWindow law _ := law
  endWindow law _ := by rw [State.endWindow_changes]; exact law

/-- Settles O2: every arm answers a next state, made of parts that leave the waiting commands. -/
theorem everyCommandCompletes : Obligations.EveryCommandCompletes := fun c s => (keeps_pending s.pending).exec rfl c

end Sys2Proof.Machine
end
section
/-! The queues of U-out under every step: their sizes, the distinctness of events, the lost marker and the cache (R147, R152, R153,
R154, R159). -/

namespace Sys2Proof.Machine

/-! ### The Event Queue's part of the law -/

/-- At most 32 entries of distinct kind and object, repeat counts from 1, and the lost marker only over entries (R153, R154). -/
structure EventLaw (events : List EventEntry) (lost : Bool) : Prop where
  size : events.length ≤ 32
  distinct : (events.map fun e => (e.kind, e.object)).Nodup
  repeats : ∀ e ∈ events, e.repeats ≠ 0
  marker : lost = true → events ≠ []

/-- The law of the state's own Event Queue. -/
abbrev State.EventsLawful (s : State) : Prop := EventLaw s.events s.lost

theorem saturate_ne_zero : ∀ c : BitVec 8, c ≠ 0 → saturate c ≠ 0 := by decide

theorem State.EventsLawful.offerEvent {s : State} (law : s.EventsLawful) (k : EventKind) (o : Option (BitVec 8))
    (a : Option Word16) : (s.offerEvent k o a).EventsLawful := by
  have distinct := State.offerEvent_keeps_nodup law.distinct k o a
  cases mask : s.masks k with
  | true => rwa [State.offerEvent_of_masked o a mask]
  | false =>
    by_cases held : (k, o) ∈ s.eventKeys
    · rw [State.offerEvent_of_held a mask held] at distinct ⊢
      refine ⟨by simpa using law.size, distinct, fun e he => ?_, fun marked => by simpa using law.marker marked⟩
      obtain ⟨e, old, rfl⟩ := List.mem_map.mp he
      split
      · exact saturate_ne_zero _ (law.repeats e old)
      · exact law.repeats e old
    · rcases Nat.lt_or_ge s.events.length Config.eventLimit with room | full
      · rw [State.offerEvent_of_new a mask held room] at distinct ⊢
        refine ⟨(List.length_append ..).trans_le room, distinct, fun e he => ?_, fun _ => by simp⟩
        rcases List.mem_append.mp he with old | new
        · exact law.repeats e old
        · rw [List.mem_singleton.mp new]; exact (by decide : (1 : BitVec 8) ≠ 0)
      · rw [State.offerEvent_of_full a mask held full]
        exact ⟨law.size, law.distinct, law.repeats, fun _ => List.ne_nil_of_length_pos (Nat.lt_of_lt_of_le (by decide) full)⟩

theorem State.EventsLawful.offerEach {s : State} (law : s.EventsLawful) (k : EventKind) (os : List (BitVec 8)) :
    (s.offerEach k os).EventsLawful := by
  induction os generalizing s with
  | nil => exact law
  | cons o os ih => exact ih (law.offerEvent k (some o) none)

theorem EventLaw.empty : EventLaw [] false := ⟨by simp, by simp, by simp, by simp⟩

/-- An EVT cell takes the first entries, and the marker with them (R154, R155). -/
theorem EventLaw.drop {events : List EventEntry} {lost : Bool} (law : EventLaw events lost) (n : Nat) :
    EventLaw (events.drop n) false := by
  have sub := List.drop_sublist n events
  exact ⟨sub.length_le.trans law.size, law.distinct.sublist (sub.map _), fun e he => law.repeats e (sub.subset he), nofun⟩

/-! ### What reports events -/

namespace State.EventsLawful

variable {s : State} (law : s.EventsLawful)
include law

theorem applyPass (v : PassVerdict) (c : Cell) : (s.applyPass v c).EventsLawful := by
  cases v with
  | room | queueFull => exact law
  | poolEmpty => exact offerEvent (s := s.count .passDrop) law _ _ _

theorem placeCell (r : RecordIndex) (c : Cell) : (s.placeCell r c).EventsLawful := by
  unfold State.placeCell
  dsimp only
  split
  · split
    · exact law
    · split
      · exact law
      · exact offerEvent (s := s.refuseCell r) law _ _ _
  · split <;> exact law

theorem takeData (c : Cell) : (s.takeData c).EventsLawful := by
  unfold State.takeData
  split
  · exact law.applyPass _ c
  · exact law
  · unfold State.offerRecord
    cases (s.record _).state with
    | filling | starting | running | paused => exact law.placeCell _ c
    | idle | faulted | unused => exact law

theorem halts : s.halts.EventsLawful := by
  rw [State.halts_changes]; exact law

theorem unlocks (why : Word16) : (s.unlocks why).EventsLawful :=
  offerEvent (halts (s := { s with lock := Lock.cleared .seeking }) law) _ _ _

theorem restartLock : s.restartLock.EventsLawful := by
  rw [State.restartLock_eq]
  unfold State.relocks
  split
  · exact law.unlocks 6
  · exact offerEvent (s := { s with lock := Lock.cleared .free }) law _ _ _

theorem seeds (n : Word16) : (s.seeds n).EventsLawful := by
  unfold State.seeds
  dsimp only
  refine offerEvent (halts ?_) _ _ _
  exact law

theorem measured (w : Window) (n : Word16) : (s.measured w n).EventsLawful := by
  have slipped : ((s.spends w).slips w n).EventsLawful := by
    unfold State.slips
    split
    · exact law
    · split
      · exact offerEvent (s := { s.spends w with timer := _ }) law _ _ _
      · exact offerEvent (s := { s.spends w with timer := _ }) law _ _ _
  unfold State.measured
  rw [State.trims_frame]
  exact slipped

theorem takeSync (n : Word16) : (s.takeSync n).EventsLawful := by
  refine State.takeSync_cases (motive := State.EventsLawful) (fun _ => law) (fun _ _ => law.seeds n) (fun w _ _ _ => ?_)
    (fun w _ _ => ?_) fun w _ _ => ?_
  · have trimmed : ((s.spends w).trims w (limited (s.phase w))).EventsLawful := by rw [State.trims_frame]; exact law
    rw [State.measureAcquiring_eq]
    split_ifs
    · refine offerEvent ?_ _ _ _
      exact trimmed
    · exact trimmed
    · exact law.seeds n
  · rw [State.measureTracking_eq]
    split_ifs
    · exact law.measured w n
    · exact (law.measured w n).unlocks 3
    · exact law.measured w n
  · rw [State.measureHoldover_eq]
    split_ifs
    · refine offerEvent ?_ _ _ _
      exact law.measured w n
    · exact (law.measured w n).unlocks 3
    · exact (law.measured w n).unlocks 4
    · exact law.measured w n

theorem endWindow (w : Window) : (s.endWindow w).EventsLawful := by
  have missed {t : State} (law : t.EventsLawful) : (t.missWindow w).EventsLawful := by
    unfold State.missWindow
    simp only [State.loseLock_eq]
    split
    · exact law.unlocks _
    · split
      · refine offerEvent ?_ _ _ _
        exact law
      · exact law.unlocks _
    · split
      · exact law.unlocks _
      · exact law
    · exact law
    · exact law
  unfold State.endWindow
  split
  · exact law
  · exact missed (t := s.handTrim w 0) law

theorem grant (m : Manager) : (s.grant m).EventsLawful := by
  unfold State.grant
  refine offerEvent ?_ _ _ _
  exact law

theorem handOver : s.handOver.EventsLawful := by
  unfold State.handOver
  split
  · exact law.grant _
  · exact law

theorem executeLease (o : LeaseOperation) (q : Request) : (s.executeLease o q).1.EventsLawful := by
  cases o with
  | acquire =>
    unfold State.executeLease State.doAcquire
    dsimp only
    split
    · exact law.grant _
    · split <;> exact law
  | renew =>
    unfold State.executeLease State.doRenew
    dsimp only
    split <;> exact law
  | release =>
    unfold State.executeLease State.doLeaseRelease
    dsimp only
    split
    · exact law
    · exact law.handOver
  | claim =>
    unfold State.executeLease State.doClaim
    dsimp only
    split
    · exact law.grant _
    · split
      · exact law
      · split
        · refine offerEvent ?_ _ _ _
          exact law
        · split <;> exact law

theorem boundary : s.boundary.EventsLawful := by
  have turned : s.turns.EventsLawful := by
    rw [← State.turns_eq, State.endFlight_eq, State.reportSwap]
    split
    · refine offerEvent ?_ _ _ _
      exact law
    · exact law
  have decided : s.turns.decideEngine.EventsLawful := by
    rw [State.decideEngine_changes]; exact turned
  rw [State.boundary_eq, State.fillSlotZero_changes, State.promote]
  split
  · exact decided
  · refine offerEach ?_ _ _
    exact decided

omit law in
theorem fillKeeps : State.FillKeeps State.EventsLawful where
  sends _ _ _ law := law
  record law _ _ := law
  stage _ law _ _ := law
  fault {s r} law _ := by
    unfold State.faultRecord
    refine offerEvent ?_ _ _ _
    exact law

theorem doWriteSettings (q : Request) : (s.doWriteSettings q).1.EventsLawful := by
  unfold State.doWriteSettings
  split
  · exact law
  · split
    · exact law
    · dsimp only
      split
      · exact law
      · refine restartLock ?_
        exact law

omit law in
theorem softReset : s.softReset.EventsLawful :=
  restartLock EventLaw.empty

omit law in
theorem restart (straps : Address) (why : StartReason) : (s.restart straps why).EventsLawful := by
  rw [State.restart_eq]
  exact ⟨by simp, by simp, by simp, by simp⟩

theorem execute (a : Ask) (q : Request) (straps : Address) : (s.execute a q straps).1.EventsLawful := by
  refine State.execute_cases (motive := State.EventsLawful) s a q straps (same := law) (ports := law) ?map ?config
    (fun _ => ?shadow) ?length ?line (settings := law.doWriteSettings q) (fun _ _ => ?record) ?copy (fun _ => ?swap) ?cancel
    (lock := law.restartLock) (soft := softReset) (full := restart straps .full) fun o => law.executeLease o q
  case map => rw [State.doWriteMap_changes]; exact law
  case config => rw [State.doWriteConfig_changes]; exact law
  case shadow => rw [State.writeShadow_changes]; exact law
  case length => rw [State.writeLength_changes]; exact law
  case line => rw [State.doWriteLine_changes]; exact law
  case record => rw [State.executeRecord_changes]; exact law
  case copy => rw [State.askCopy_changes]; exact law
  case swap => rw [State.askSwap_changes]; exact law
  case cancel => rw [State.cancelSwap_changes]; exact law

/-- The cell time that sends an EVT cell takes its entries, and clears the marker (R154, R155). -/
theorem fillCellTime (k : Nat) : (s.fillCellTime k).EventsLawful := by
  have own (o : OwnCandidate) : (s.sendOwn o).EventsLawful := by
    cases o with
    | none | reply => exact law
    | events => exact EventLaw.drop law 4
  unfold State.fillCellTime State.arbitrate
  split
  · exact law
  · split
    · exact own _
    · exact law
    · split
      · exact law
      · exact own _

end State.EventsLawful

/-! ### The other queues -/

/-- The law in its parts: the other queues within their sizes, the Event Queue's part, and each cache entry its manager's. -/
theorem queueLaw_iff (s : State) :
    QueueLaw s ↔ s.through.length ≤ 32 ∧ s.replies.length ≤ 16 ∧ s.EventsLawful ∧ ∀ m r, s.cached m = some r → r.manager = m := by
  constructor
  · rintro ⟨through, replies, size, distinct, repeats, marker, cache⟩
    exact ⟨through, replies, ⟨size, distinct, repeats, marker⟩, cache⟩
  · rintro ⟨through, replies, ⟨size, distinct, repeats, marker⟩, cache⟩
    exact ⟨through, replies, size, distinct, repeats, marker, cache⟩

/-- An operation that leaves the Through FIFO, the Reply Queue and the cache has only the Event Queue's part to keep. -/
theorem QueueLaw.of_events {s t : State} (law : QueueLaw s) (through : t.through = s.through) (replies : t.replies = s.replies)
    (cache : t.cache = s.cache) (events : s.EventsLawful → t.EventsLawful) : QueueLaw t := by
  rw [queueLaw_iff] at law ⊢
  obtain ⟨fits, room, lawful, own⟩ := law
  exact ⟨through ▸ fits, replies ▸ room, events lawful, by simpa only [State.cached, cache] using own⟩

theorem State.replies_of_ownCandidate {s : State} {r : Reply} {rest : List Reply} (chosen : s.ownCandidate = .reply r rest) :
    s.replies = r :: rest := by
  unfold State.ownCandidate at chosen
  split at chosen
  next head => cases chosen; exact head
  · split at chosen <;> cases chosen

namespace QueueLaw

/-- Empty queues and an empty cache leave only the Event Queue's part. -/
theorem emptied {t : State} (through : t.through = []) (replies : t.replies = []) (cache : t.cache = Vector.replicate 4 none)
    (events : t.EventsLawful) : QueueLaw t := by
  refine (queueLaw_iff t).mpr ⟨by simp [through], by simp [replies], events, fun m r held => ?_⟩
  simp [State.cached, cache] at held

theorem restart {s : State} (straps : Address) (why : StartReason) : QueueLaw (s.restart straps why) := by
  have events := State.EventsLawful.restart (s := s) straps why
  rw [State.restart_eq] at events ⊢
  exact emptied rfl rfl rfl events

theorem push {s : State} (law : QueueLaw s) (r : Reply) (room : s.replies.length < 16) : QueueLaw (s.pushReply r) := by
  obtain ⟨fits, -, events, own⟩ := (queueLaw_iff s).mp law
  exact (queueLaw_iff _).mpr ⟨fits, (List.length_append ..).trans_le room, events, own⟩

theorem cache {s : State} (law : QueueLaw s) (r : Reply) : QueueLaw (s.cacheReply r) := by
  obtain ⟨fits, room, events, own⟩ := (queueLaw_iff s).mp law
  refine (queueLaw_iff _).mpr ⟨fits, room, events, fun m c held => ?_⟩
  rcases eq_or_ne m r.manager with rfl | other
  · rw [State.cached_cacheReply, if_pos rfl] at held
    rw [← Option.some.inj held]
  · rw [State.cached_cacheReply, if_neg other] at held
    exact own m c held

/-- The cell time of U-out at most takes its cell from the Through FIFO or the Reply Queue (R149, R150). -/
theorem fillCellTime {s : State} (law : QueueLaw s) (k : Nat) : QueueLaw (s.fillCellTime k) := by
  obtain ⟨fits, room, events, own⟩ := (queueLaw_iff s).mp law
  have sent : ∀ o, o = s.ownCandidate → (s.sendOwn o).through.length ≤ 32 ∧ (s.sendOwn o).replies.length ≤ 16 := by
    rintro (_ | ⟨r, rest⟩ | _) chosen
    · exact ⟨fits, room⟩
    · have head : s.replies = r :: rest := State.replies_of_ownCandidate chosen.symm
      rw [head] at room
      exact ⟨fits, (Nat.le_succ _).trans room⟩
    · exact ⟨fits, room⟩
  have arbitrated : s.arbitrate.through.length ≤ 32 ∧ s.arbitrate.replies.length ≤ 16 := by
    unfold State.arbitrate
    split
    · exact sent _ rfl
    next head _ => rw [head] at fits; exact ⟨(Nat.le_succ _).trans fits, room⟩
    next head _ =>
      rw [head] at fits
      split
      · exact ⟨(Nat.le_succ _).trans fits, room⟩
      · exact sent _ rfl
  have stored : (s.fillCellTime k).through.length ≤ 32 ∧ (s.fillCellTime k).replies.length ≤ 16 := by
    unfold State.fillCellTime
    split
    · exact ⟨fits, room⟩
    · exact arbitrated
  refine (queueLaw_iff _).mpr ⟨stored.1, stored.2, events.fillCellTime k, ?_⟩
  rw [State.fillCellTime_changes]
  exact own

variable {s : State} (law : QueueLaw s)
include law

theorem events : s.EventsLawful := ((queueLaw_iff s).mp law).2.2.1

theorem execute (a : Ask) (q : Request) (straps : Address) : QueueLaw (s.execute a q straps).1 := by
  refine State.execute_cases (motive := QueueLaw) s a q straps (same := law) (ports := law) ?map ?config
    (fun _ => ?shadow) ?length ?line ?settings (fun _ _ => ?record) ?copy (fun _ => ?swap) ?cancel ?lock ?soft
    (full := restart straps .full) fun o => ?lease
  case map => rw [State.doWriteMap_changes]; exact law
  case config => rw [State.doWriteConfig_changes]; exact law
  case shadow => rw [State.writeShadow_changes]; exact law
  case length => rw [State.writeLength_changes]; exact law
  case line => rw [State.doWriteLine_changes]; exact law
  case settings =>
    have events := law.events.doWriteSettings q
    rw [State.doWriteSettings_changes] at events ⊢
    exact law.of_events rfl rfl rfl fun _ => events
  case record => rw [State.executeRecord_changes]; exact law
  case copy => rw [State.askCopy_changes]; exact law
  case swap => rw [State.askSwap_changes]; exact law
  case cancel => rw [State.cancelSwap_changes]; exact law
  case lock =>
    have events := law.events.restartLock
    rw [State.restartLock_changes] at events ⊢
    exact law.of_events rfl rfl rfl fun _ => events
  case soft =>
    have events := State.EventsLawful.softReset (s := s)
    rw [State.softReset_changes] at events ⊢
    exact emptied rfl rfl rfl events
  case lease =>
    have events := law.events.executeLease o q
    rw [State.executeLease_changes] at events ⊢
    exact law.of_events rfl rfl rfl fun _ => events

end QueueLaw

theorem keeps_queueLaw : Keeps QueueLaw where
  tick law _ := law
  pin law := law
  restart straps why _ := QueueLaw.restart straps why
  holdPin law := by rw [State.holdPin_changes]; exact law
  link side _ law := by cases side <;> exact law
  count _ law := law.of_events rfl rfl rfl id
  event k o a law := law.of_events (State.offerEvent_through ..) (State.offerEvent_replies ..) (State.offerEvent_cache ..)
    fun events => events.offerEvent k o a
  through c law room := by
    obtain ⟨-, replies, events, own⟩ := (queueLaw_iff _).mp law
    exact (queueLaw_iff _).mpr ⟨(List.length_append ..).trans_le room, replies, events, own⟩
  takeData c law := by
    have events := law.events.takeData c
    rw [State.takeData_changes] at events ⊢
    exact law.of_events rfl rfl rfl fun _ => events
  takeSync n law := by
    have events := law.events.takeSync n
    rw [State.takeSync_changes] at events ⊢
    exact law.of_events rfl rfl rfl fun _ => events
  pass v c law := by
    have events := law.events.applyPass v c
    rw [State.applyPass_changes] at events ⊢
    exact law.of_events rfl rfl rfl fun _ => events
  execute straps law _ := law.execute _ _ straps
  push r law room := law.push r room
  cache r law := law.cache r
  copyStep law _ _ := law
  finishCopy law _ _ := law
  unitStep law _ _ _ := law
  expireLease {s} law _ := by
    have events : s.expireLease.EventsLawful := (law.events.offerEvent _ _ _).handOver
    rw [State.expireLease_changes] at events ⊢
    exact law.of_events rfl rfl rfl fun _ => events
  boundary law := by
    have events := law.events.boundary
    rw [State.boundary_changes] at events ⊢
    exact law.of_events rfl rfl rfl fun _ => events
  beginSlot {s k} law _ := by
    have ended : ((s.reach (s.timer.slotTick k)).endSlot.atPosition (.slot k)).EventsLawful := by
      rw [State.endSlot_eq]; exact law.events
    have events : (s.beginSlot k).EventsLawful := State.EventsLawful.fillKeeps.fillSlot ended k
    rw [State.beginSlot_changes] at events ⊢
    exact law.of_events rfl rfl rfl fun _ => events
  beginGuard t law := by rw [State.beginGuard_changes]; exact law
  cellTime {s k} law _ := by
    refine QueueLaw.fillCellTime ?_ k
    exact law
  openWindow law _ := law
  endWindow {_ w} law _ := by
    have events := law.events.endWindow w
    rw [State.endWindow_changes] at events ⊢
    exact law.of_events rfl rfl rfl fun _ => events

/-- Settles O54: every part of a command keeps the queues' law, and the waiting commands have no part in it. -/
theorem queuesKeepTheirSizes : Obligations.QueuesKeepTheirSizes := fun _ _ law run =>
  keeps_queueLaw.step (fun _ _ law => law) law run

end Sys2Proof.Machine
end
section
/-! The settings keep to their ranges, and the lease to its law, under every step (R160, R175). -/

namespace Sys2Proof.Machine

/-! ### The Settings record -/

/-- The ranges of R160 for one record of settings, STARTED_UP not suppressed (R156). -/
def Settings.InRange (g : Settings) : Prop :=
  64 ≤ g.guard ∧ g.guard ≤ 1024 ∧ g.latency ≤ 4095 ∧ 16 ≤ g.window ∧ g.window ≤ 4095 ∧ 4 ≤ g.lockWindow ∧
  g.lockWindow ≤ g.window ∧ 1 ≤ g.holdoverLimit ∧ g.holdoverLimit ≤ 255 ∧ g.mask.getLsbD 0 = false ∧ 1 ≤ g.leaseTimeout ∧
  g.leaseTimeout ≤ 255 ∧ 1 ≤ g.claimGrace ∧ g.claimGrace ≤ 255

/-- What a written entry gives lies in its ranges (R170). -/
theorem Settings.ofData_inRange {d : DataArea} {g : Settings} (read : Settings.ofData d = some g) : g.InRange := by
  have octet (k : Nat) : (dataOctet d k).toNat ≤ 255 := Nat.le_of_lt_succ (dataOctet d k).isLt
  unfold Settings.ofData at read
  dsimp only at read
  split at read
  · split at read
    next ranges =>
      obtain ⟨guard, guard', latency, window, window', lock, lock', holdover, timeout, grace⟩ := ranges
      obtain rfl := Option.some.inj read
      exact ⟨guard, guard', latency, window, window', lock, lock', holdover, octet 9, by simp, timeout, octet 13, grace,
        octet 14⟩
    · cases read
  · cases read

theorem SettingsLaw.doWriteSettings {s : State} (law : SettingsLaw s) (q : Request) : SettingsLaw (s.doWriteSettings q).1 := by
  unfold State.doWriteSettings
  split
  · exact law
  next read =>
    have ranges := Settings.ofData_inRange read
    split
    · exact law
    · dsimp only
      split
      · exact ranges
      · rw [State.restartLock_changes]; exact ranges

theorem settingsLaw_reset : SettingsLaw State.reset := by
  unfold SettingsLaw
  decide

theorem SettingsLaw.restart {s : State} (straps : Address) (why : StartReason) : SettingsLaw (s.restart straps why) := by
  rw [State.restart_eq]
  exact settingsLaw_reset

theorem keeps_settingsLaw : Keeps SettingsLaw where
  tick law _ := law
  pin law := law
  restart straps why _ := SettingsLaw.restart straps why
  holdPin law := by rw [State.holdPin_changes]; exact law
  link side _ law := by cases side <;> exact law
  count _ law := law
  event _ _ _ law := by rw [State.offerEvent_changes]; exact law
  through _ law _ := law
  takeData _ law := by rw [State.takeData_changes]; exact law
  takeSync _ law := by rw [State.takeSync_changes]; exact law
  pass _ _ law := by rw [State.applyPass_changes]; exact law
  execute {s broadcast a q} straps law _ := by
    refine State.execute_cases (motive := SettingsLaw) s a q straps (same := law) (ports := law) ?map ?config
      (fun _ => ?shadow) ?length ?line (settings := law.doWriteSettings q) (fun _ _ => ?record) ?copy (fun _ => ?swap) ?cancel
      ?lock ?soft (full := SettingsLaw.restart straps .full) fun _ => ?lease
    case map => rw [State.doWriteMap_changes]; exact law
    case config => rw [State.doWriteConfig_changes]; exact law
    case shadow => rw [State.writeShadow_changes]; exact law
    case length => rw [State.writeLength_changes]; exact law
    case line => rw [State.doWriteLine_changes]; exact law
    case record => rw [State.executeRecord_changes]; exact law
    case copy => rw [State.askCopy_changes]; exact law
    case swap => rw [State.askSwap_changes]; exact law
    case cancel => rw [State.cancelSwap_changes]; exact law
    case lock => rw [State.restartLock_changes]; exact law
    case soft => rw [State.softReset_changes]; exact law
    case lease => rw [State.executeLease_changes]; exact law
  push _ law _ := law
  cache _ law := law
  copyStep law _ _ := law
  finishCopy law _ _ := law
  unitStep law _ _ _ := law
  expireLease law _ := by rw [State.expireLease_changes]; exact law
  boundary law := by rw [State.boundary_changes]; exact law
  beginSlot law _ := by rw [State.beginSlot_changes]; exact law
  beginGuard _ law := by rw [State.beginGuard_changes]; exact law
  cellTime law _ := by rw [State.fillCellTime_changes]; exact law
  openWindow law _ := law
  endWindow law _ := by rw [State.endWindow_changes]; exact law

/-! ### The lease -/

theorem Lease.held_of_refusal_none {l : Lease} {m : Manager} {epoch : Word16} {read : Bool}
    (permitted : l.refusal m epoch read = none) : l.state = .held := by
  unfold Lease.refusal at permitted
  split at permitted
  next holds =>
    simp only [Lease.heldBy, Bool.and_eq_true, beq_iff_eq] at holds
    exact holds.1
  · cases permitted

/-- A grant is lawful whatever stood before (R178). -/
theorem LeaseLaw.grant {s : State} (ranges : SettingsLaw s) (m : Manager) : LeaseLaw (s.grant m) := by
  obtain ⟨-, -, -, -, -, -, -, -, -, -, timeout, timeout', -, -⟩ := ranges
  have lease : (s.grant m).lease = Lease.mk .held (some m) (s.lease.epoch + 1) (some s.settings.leaseTimeout) s.now none :=
    State.offerEvent_lease ..
  unfold LeaseLaw
  rw [lease]
  exact ⟨by simp, by simp, nofun, nofun, fun n running => Option.some.inj running ▸ ⟨timeout, timeout'⟩⟩

theorem LeaseLaw.handOver {s : State} (ranges : SettingsLaw s) : LeaseLaw s.handOver := by
  unfold State.handOver
  split
  · exact grant ranges _
  next claimant => exact ⟨by simp [State.setLease], by simp [State.setLease], by simp [State.setLease, claimant],
      by simp [State.setLease, claimant], nofun⟩

namespace LeaseLaw

variable {s : State} (law : LeaseLaw s)
include law

/-- A lawful lease whose countdown runs on, or is set anew, in 1..255 (R176, R179, R180). -/
theorem recount {l : Lease} {n : Nat} (held : s.lease.state = .held) (state : l.state = s.lease.state)
    (holder : l.holder = s.lease.holder) (claimant : l.claimant = s.lease.claimant) (countdown : l.countdown = some n)
    (range : 1 ≤ n ∧ n ≤ 255) : LeaseLaw (s.setLease l) := by
  obtain ⟨holds, -, claims, own, -⟩ := law
  unfold LeaseLaw State.setLease
  rw [state, holder, claimant, countdown]
  exact ⟨holds, by simp [held], claims, own, fun k running => Option.some.inj running ▸ range⟩

theorem claimed (ranges : SettingsLaw s) {m : Manager} (held : s.lease.state = .held) (other : s.lease.holder ≠ some m)
    (now : Nat) : LeaseLaw (s.setLease (s.lease.claimed m s.settings.claimGrace now)) := by
  obtain ⟨-, -, -, -, -, -, -, -, -, -, -, -, grace, grace'⟩ := ranges
  obtain ⟨holds, runs, -, -, range⟩ := law
  have never (k : Manager) (claims : some m = some k) : s.lease.holder ≠ some k := Option.some.inj claims ▸ other
  unfold State.setLease Lease.claimed
  split
  · exact ⟨holds, by simp [held], fun _ => held, never, fun n running => Option.some.inj running ▸ ⟨grace, grace'⟩⟩
  · exact ⟨holds, runs, fun _ => held, never, range⟩

theorem unitStep {n : Nat} (held : s.lease.state = .held) (running : s.lease.countdown = some n) (above : 1 < n) :
    LeaseLaw (s.setLease (s.lease.unitStep n)) := by
  have range := law.2.2.2.2 n running
  exact law.recount held rfl rfl rfl rfl (by omega)

theorem executeLease (ranges : SettingsLaw s) (o : LeaseOperation) (q : Request) : LeaseLaw (s.executeLease o q).1 := by
  cases o with
  | acquire =>
    unfold State.executeLease State.doAcquire
    dsimp only
    split
    · exact grant ranges _
    · split <;> exact law
  | renew =>
    unfold State.executeLease State.doRenew
    dsimp only
    split
    · exact law
    next permitted =>
      obtain ⟨-, -, -, -, -, -, -, -, -, -, timeout, timeout', -, -⟩ := ranges
      exact law.recount (Lease.held_of_refusal_none permitted) rfl rfl rfl rfl ⟨timeout, timeout'⟩
  | release =>
    unfold State.executeLease State.doLeaseRelease
    dsimp only
    split
    · exact law
    · exact handOver ranges
  | claim =>
    unfold State.executeLease State.doClaim
    dsimp only
    split
    · exact grant ranges _
    next held =>
      split
      · exact law
      next other =>
        split
        · have other : s.lease.holder ≠ some q.manager := by simpa [Lease.heldBy, held] using other
          rw [State.offerEvent_changes]
          exact law.claimed ranges held other s.now
        · split <;> exact law

end LeaseLaw

theorem leaseLaw_reset : LeaseLaw State.reset := by
  unfold LeaseLaw
  decide

theorem LeaseLaw.restart {s : State} (straps : Address) (why : StartReason) : LeaseLaw (s.restart straps why) := by
  rw [State.restart_eq]
  exact leaseLaw_reset

theorem keeps_settingsAndLease : Keeps fun s => SettingsLaw s ∧ LeaseLaw s where
  tick law _ := law
  pin law := law
  restart straps why _ := ⟨SettingsLaw.restart straps why, LeaseLaw.restart straps why⟩
  holdPin law := by rw [State.holdPin_changes]; exact law
  link side _ law := by cases side <;> exact law
  count _ law := law
  event _ _ _ law := by rw [State.offerEvent_changes]; exact law
  through _ law _ := law
  takeData _ law := by rw [State.takeData_changes]; exact law
  takeSync _ law := by rw [State.takeSync_changes]; exact law
  pass _ _ law := by rw [State.applyPass_changes]; exact law
  execute {s broadcast a q} straps law passed := by
    refine ⟨keeps_settingsLaw.execute straps law.1 passed, ?_⟩
    obtain ⟨ranges, law⟩ := law
    refine State.execute_cases (motive := LeaseLaw) s a q straps (same := law) (ports := law) ?map ?config
      (fun _ => ?shadow) ?length ?line ?settings (fun _ _ => ?record) ?copy (fun _ => ?swap) ?cancel
      ?lock ?soft (full := LeaseLaw.restart straps .full) fun o => law.executeLease ranges o q
    case map => rw [State.doWriteMap_changes]; exact law
    case config => rw [State.doWriteConfig_changes]; exact law
    case shadow => rw [State.writeShadow_changes]; exact law
    case length => rw [State.writeLength_changes]; exact law
    case line => rw [State.doWriteLine_changes]; exact law
    case settings => rw [State.doWriteSettings_changes]; exact law
    case record => rw [State.executeRecord_changes]; exact law
    case copy => rw [State.askCopy_changes]; exact law
    case swap => rw [State.askSwap_changes]; exact law
    case cancel => rw [State.cancelSwap_changes]; exact law
    case lock => rw [State.restartLock_changes]; exact law
    case soft => rw [State.softReset_changes]; exact law
  push _ law _ := law
  cache _ law := law
  copyStep law _ _ := law
  finishCopy law _ _ := law
  unitStep law held running above := ⟨law.1, law.2.unitStep held running above⟩
  expireLease {s} law _ := by
    have reported : SettingsLaw s.reportExpiry := by unfold State.reportExpiry; rw [State.offerEvent_changes]; exact law.1
    exact ⟨by rw [State.expireLease_changes]; exact law.1, LeaseLaw.handOver reported⟩
  boundary law := by rw [State.boundary_changes]; exact law
  beginSlot law _ := by rw [State.beginSlot_changes]; exact law
  beginGuard _ law := by rw [State.beginGuard_changes]; exact law
  cellTime law _ := by rw [State.fillCellTime_changes]; exact law
  openWindow law _ := law
  endWindow law _ := by rw [State.endWindow_changes]; exact law

/-- Settles O55: the ranges hold by themselves, and the lease law holds with them, since a grant takes its countdown from them. -/
theorem settingsAndLeaseKeepTheirLaws : Obligations.SettingsAndLeaseKeepTheirLaws := fun _ _ ranges run =>
  ⟨keeps_settingsLaw.step (fun _ _ law => law) ranges run,
    fun law => (keeps_settingsAndLease.step (fun _ _ law => law) ⟨ranges, law⟩ run).2⟩

end Sys2Proof.Machine
end
section
/-! The lock's law and the engine's law under every step (R78, R113). -/

namespace Sys2Proof.Machine

/-! ### The lock's part -/

/-- The law of a lock under a cycle source (R113). -/
def Lock.Lawful (l : Lock) (source : CycleSource) : Prop :=
  (l.state = .free ↔ source = .loc) ∧
  (l.window.isSome ↔ l.state = .acquiring ∨ l.state = .tracking ∨ l.state = .holdover) ∧
  (l.state = .free ∨ l.state = .seeking → l.acquisition = 0 ∧ l.excursion = 0 ∧ l.holdover = 0) ∧
  (l.state = .acquiring → l.acquisition < 3 ∧ l.excursion = 0 ∧ l.holdover = 0) ∧
  (l.state = .tracking → l.acquisition = 3 ∧ l.excursion < 3 ∧ l.holdover = 0) ∧
  (l.state = .holdover → l.acquisition = 3 ∧ l.excursion < 3 ∧ 1 ≤ l.holdover ∧ l.holdover ≤ 255)

theorem lockLaw_iff (s : State) : LockLaw s ↔ s.lock.Lawful s.settings.source := Iff.rfl

/-- The law by the state of the lock: what it says where the state is known. -/
theorem Lock.lawful_iff (l : Lock) (source : CycleSource) : l.Lawful source ↔
    match l.state with
    | .free => source = .loc ∧ l.window = none ∧ l.acquisition = 0 ∧ l.excursion = 0 ∧ l.holdover = 0
    | .seeking => source = .line ∧ l.window = none ∧ l.acquisition = 0 ∧ l.excursion = 0 ∧ l.holdover = 0
    | .acquiring => source = .line ∧ l.window.isSome ∧ l.acquisition < 3 ∧ l.excursion = 0 ∧ l.holdover = 0
    | .tracking => source = .line ∧ l.window.isSome ∧ l.acquisition = 3 ∧ l.excursion < 3 ∧ l.holdover = 0
    | .holdover => source = .line ∧ l.window.isSome ∧ l.acquisition = 3 ∧ l.excursion < 3 ∧ 1 ≤ l.holdover ∧ l.holdover ≤ 255 := by
  have source_eq : source ≠ .loc ↔ source = .line := by cases source <;> decide
  unfold Lock.Lawful
  cases l.state <;> simp [source_eq]

theorem Lock.cleared_seeking_lawful : (Lock.cleared .seeking).Lawful .line := by
  rw [Lock.lawful_iff]
  exact ⟨rfl, rfl, rfl, rfl, rfl⟩

theorem Lock.cleared_free_lawful : (Lock.cleared .free).Lawful .loc := by
  rw [Lock.lawful_iff]
  exact ⟨rfl, rfl, rfl, rfl, rfl⟩

theorem LockLaw.unlocks {s : State} (source : s.settings.source = .line) (why : Word16) : LockLaw (s.unlocks why) := by
  rw [State.unlocks_changes, lockLaw_iff, source]
  exact Lock.cleared_seeking_lawful

/-- A restart is lawful whatever stood before (R129). -/
theorem LockLaw.restartLock (s : State) : LockLaw s.restartLock := by
  unfold State.restartLock
  split
  next source => rw [State.loseLock_eq]; exact unlocks source _
  next source =>
    unfold State.reportLock
    rw [State.offerEvent_changes, lockLaw_iff]
    simp only [source]
    exact Lock.cleared_free_lawful

namespace LockLaw

variable {s : State} (law : LockLaw s)
include law

/-- A seed keeps counts that are 0 already (R120). -/
theorem seeds (source : s.settings.source = .line) (state : s.lock.state = .seeking ∨ s.lock.state = .acquiring) (n : Word16) :
    LockLaw (s.seeds n) := by
  rw [lockLaw_iff, Lock.lawful_iff] at law
  have counts : s.lock.excursion = 0 ∧ s.lock.holdover = 0 := by
    rcases state with state | state <;> rw [state] at law <;> exact law.2.2.2
  unfold State.seeds
  dsimp only
  rw [State.offerEvent_changes, State.halts_changes, lockLaw_iff, Lock.lawful_iff]
  exact ⟨source, rfl, Nat.zero_lt_succ _, counts.1, counts.2⟩

theorem takeSync (n : Word16) : LockLaw (s.takeSync n) := by
  refine State.takeSync_cases (motive := LockLaw) (fun _ => law) (fun source state => law.seeds source (.inl state) n)
    (fun w source kept state => ?_) (fun w kept state => ?_) fun w kept state => ?_
  all_goals have lawful := (lockLaw_iff s).mp law
  all_goals rw [Lock.lawful_iff, state] at lawful
  · obtain ⟨source, open', below, excursion, holdover⟩ := lawful
    rw [State.measureAcquiring_eq]
    split_ifs with matched third
    · rw [State.offerEvent_changes, State.trims_frame, lockLaw_iff, Lock.lawful_iff]
      exact ⟨source, rfl, by simp only [State.locks]; omega, Nat.zero_lt_succ _, rfl⟩
    · rw [State.trims_frame, lockLaw_iff, Lock.lawful_iff]
      simp only [State.locks, state]
      exact ⟨source, rfl, by omega, excursion, holdover⟩
    · exact law.seeds source (.inr state) n
  · obtain ⟨source, open', acquired, excursion, holdover⟩ := lawful
    have measured : (s.measured w n).settings.source = .line := by rw [State.measured_changes]; exact source
    rw [State.measureTracking_eq, state]
    split_ifs with lock third
    · rw [State.measured_changes, lockLaw_iff, Lock.lawful_iff]
      exact ⟨source, rfl, acquired, Nat.zero_lt_succ _, holdover⟩
    · exact unlocks measured _
    · rw [State.measured_changes, lockLaw_iff, Lock.lawful_iff]
      exact ⟨source, rfl, acquired, Nat.not_le.mp third, holdover⟩
  · obtain ⟨source, open', acquired, excursion, holdover⟩ := lawful
    have measured : (s.measured w n).settings.source = .line := by rw [State.measured_changes]; exact source
    rw [State.measureHoldover_eq, state]
    split_ifs with lock third limit
    · rw [State.offerEvent_changes, State.measured_changes, lockLaw_iff, Lock.lawful_iff]
      exact ⟨source, rfl, acquired, Nat.zero_lt_succ _, rfl⟩
    · exact unlocks measured _
    · exact unlocks measured _
    · rw [State.measured_changes, lockLaw_iff, Lock.lawful_iff]
      exact ⟨source, rfl, acquired, Nat.not_le.mp third, by simp only [State.locks]; omega, by simp only [State.locks]; omega⟩

/-- Another window in the place of one keeps the law (R116). -/
theorem rewindow {w : Window} (kept : s.lock.window = some w) (w' : Window) :
    LockLaw { s with lock := { s.lock with window := some w' } } := by
  obtain ⟨free, window, counts⟩ := law
  exact ⟨free, by rw [kept] at window; exact window, counts⟩

theorem missWindow (w : Window) : LockLaw (s.missWindow w) := by
  have lawful := (lockLaw_iff s).mp law
  rw [Lock.lawful_iff] at lawful
  unfold State.missWindow
  split
  next state => rw [state] at lawful; rw [State.loseLock_eq]; exact unlocks lawful.1 _
  next state =>
    rw [state] at lawful
    obtain ⟨source, -, acquired, excursion, -⟩ := lawful
    split
    · unfold State.reportLock
      rw [State.offerEvent_changes, lockLaw_iff, Lock.lawful_iff]
      exact ⟨source, rfl, acquired, excursion, le_rfl, Nat.le_of_ble_eq_true rfl⟩
    · rw [State.loseLock_eq]; exact unlocks source _
  next state =>
    rw [state] at lawful
    obtain ⟨source, -, acquired, excursion, counted, -⟩ := lawful
    split
    · rw [State.loseLock_eq]; exact unlocks source _
    · rw [lockLaw_iff, Lock.lawful_iff]
      simp only [State.fixWindow, state, advanceHoldover]
      exact ⟨source, rfl, acquired, excursion, by omega, by omega⟩
  · exact law
  · exact law

theorem endWindow {w : Window} (kept : s.lock.window = some w) : LockLaw (s.endWindow w) := by
  unfold State.endWindow
  split
  · exact law.rewindow kept _
  · exact missWindow (s := s.handTrim w 0) law w

theorem doWriteSettings (q : Request) : LockLaw (s.doWriteSettings q).1 := by
  unfold State.doWriteSettings
  split
  · exact law
  · split
    · exact law
    · dsimp only
      split
      next same => rw [lockLaw_iff] at law ⊢; rw [same]; exact law
      · exact restartLock _

end LockLaw

theorem lockLaw_reset : LockLaw State.reset := by
  unfold LockLaw
  decide

theorem LockLaw.restart {s : State} (straps : Address) (why : StartReason) : LockLaw (s.restart straps why) := by
  rw [State.restart_eq]
  exact lockLaw_reset

theorem keeps_lockLaw : Keeps LockLaw where
  tick law _ := law
  pin law := law
  restart straps why _ := LockLaw.restart straps why
  holdPin law := by rw [State.holdPin_changes]; exact law
  link side _ law := by cases side <;> exact law
  count _ law := law
  event _ _ _ law := by rw [State.offerEvent_changes]; exact law
  through _ law _ := law
  takeData _ law := by rw [State.takeData_changes]; exact law
  takeSync n law := law.takeSync n
  pass _ _ law := by rw [State.applyPass_changes]; exact law
  execute {s broadcast a q} straps law _ := by
    refine State.execute_cases (motive := LockLaw) s a q straps (same := law) (ports := law) ?map ?config
      (fun _ => ?shadow) ?length ?line (settings := law.doWriteSettings q) (fun _ _ => ?record) ?copy (fun _ => ?swap) ?cancel
      (lock := LockLaw.restartLock s) (soft := LockLaw.restartLock _) (full := LockLaw.restart straps .full) fun _ => ?lease
    case map => rw [State.doWriteMap_changes]; exact law
    case config => rw [State.doWriteConfig_changes]; exact law
    case shadow => rw [State.writeShadow_changes]; exact law
    case length => rw [State.writeLength_changes]; exact law
    case line => rw [State.doWriteLine_changes]; exact law
    case record => rw [State.executeRecord_changes]; exact law
    case copy => rw [State.askCopy_changes]; exact law
    case swap => rw [State.askSwap_changes]; exact law
    case cancel => rw [State.cancelSwap_changes]; exact law
    case lease => rw [State.executeLease_changes]; exact law
  push _ law _ := law
  cache _ law := law
  copyStep law _ _ := law
  finishCopy law _ _ := law
  unitStep law _ _ _ := law
  expireLease law _ := by rw [State.expireLease_changes]; exact law
  boundary law := by rw [State.boundary_changes]; exact law
  beginSlot law _ := by rw [State.beginSlot_changes]; exact law
  beginGuard _ law := by rw [State.beginGuard_changes]; exact law
  cellTime law _ := by rw [State.fillCellTime_changes]; exact law
  openWindow law kept := law.rewindow kept _
  endWindow law kept := law.endWindow kept

/-! ### The engine's part -/

theorem State.halts_engine (s : State) : s.halts.engine = .halted := by
  unfold State.halts
  cases running : s.engine with
  | halted => simp [running]
  | running => simp

theorem EngineLaw.of_halted {s : State} (halted : s.engine = .halted) : EngineLaw s := fun running => by
  rw [halted] at running
  cases running

theorem EngineLaw.unlocks (s : State) (why : Word16) : EngineLaw (s.unlocks why) :=
  of_halted ((State.offerEvent_engine ..).trans (State.halts_engine _))

theorem EngineLaw.seeds (s : State) (n : Word16) : EngineLaw (s.seeds n) :=
  of_halted ((State.offerEvent_engine ..).trans (State.halts_engine _))

namespace EngineLaw

variable {s : State} (law : EngineLaw s)
include law

/-- The law reads the engine, the active bank and whether the lock is FREE, TRACKING or HOLDOVER. -/
theorem of_same {t : State} (engine : t.engine = s.engine) (active : t.banks.active = s.banks.active)
    (locked : s.lock.state = .free ∨ s.lock.state = .tracking ∨ s.lock.state = .holdover →
      t.lock.state = .free ∨ t.lock.state = .tracking ∨ t.lock.state = .holdover) : EngineLaw t := fun running => by
  obtain ⟨least, most, lock⟩ := law (engine ▸ running)
  exact ⟨active ▸ least, active ▸ most, locked lock⟩

theorem restartLock : EngineLaw s.restartLock := by
  unfold State.restartLock
  split
  · rw [State.loseLock_eq]; exact unlocks _ _
  · unfold State.reportLock
    rw [State.offerEvent_changes]
    exact law.of_same rfl rfl fun _ => .inl rfl

theorem takeSync (n : Word16) : EngineLaw (s.takeSync n) := by
  refine State.takeSync_cases (motive := EngineLaw) (fun _ => law) (fun _ _ => seeds s n)
    (fun w source kept state => ?_) (fun w kept state => ?_) fun w kept state => ?_
  · rw [State.measureAcquiring_eq]
    split_ifs
    · rw [State.offerEvent_changes, State.trims_frame]
      exact law.of_same rfl rfl fun _ => .inr (.inl rfl)
    · rw [State.trims_frame]
      exact law.of_same rfl rfl id
    · exact seeds s n
  · rw [State.measureTracking_eq]
    split_ifs
    · rw [State.measured_changes]; exact law.of_same rfl rfl id
    · exact unlocks _ _
    · rw [State.measured_changes]; exact law.of_same rfl rfl id
  · rw [State.measureHoldover_eq]
    split_ifs
    · rw [State.offerEvent_changes, State.measured_changes]
      exact law.of_same rfl rfl fun _ => .inr (.inl rfl)
    · exact unlocks _ _
    · exact unlocks _ _
    · rw [State.measured_changes]; exact law.of_same rfl rfl id

theorem missWindow (w : Window) : EngineLaw (s.missWindow w) := by
  unfold State.missWindow
  simp only [State.loseLock_eq]
  split
  · exact unlocks _ _
  · split
    · unfold State.reportLock
      rw [State.offerEvent_changes]
      exact law.of_same rfl rfl fun _ => .inr (.inr rfl)
    · exact unlocks _ _
  · split
    · exact unlocks _ _
    · exact law.of_same rfl rfl id
  · exact law
  · exact law

theorem endWindow (w : Window) : EngineLaw (s.endWindow w) := by
  unfold State.endWindow
  split
  · exact law
  · exact missWindow (s := s.handTrim w 0) law w

theorem doWriteSettings (q : Request) : EngineLaw (s.doWriteSettings q).1 := by
  unfold State.doWriteSettings
  split
  · exact law
  · split
    · exact law
    · dsimp only
      split
      · exact law
      · refine restartLock ?_
        exact law

omit law in
theorem softReset : EngineLaw s.softReset := by
  refine restartLock ?_
  have halted : s.softFlush.haltEngine.engine = .halted := by rw [State.haltEngine_eq]; exact State.halts_engine _
  exact of_halted halted

end EngineLaw

/-- A boundary decides the engine afresh (R78). -/
theorem EngineLaw.boundary (s : State) : EngineLaw s.boundary := by
  have decided (t : State) : EngineLaw t.decideEngine := by
    unfold State.decideEngine
    split
    next may =>
      simp only [State.mayRun, Bool.and_eq_true, Bank.valid_iff, Bool.or_eq_true, beq_iff_eq, or_assoc] at may
      exact fun _ => ⟨may.1.1, may.1.2, may.2⟩
    · rw [State.haltEngine_eq]; exact EngineLaw.of_halted (State.halts_engine t)
  rw [State.boundary_eq, State.fillSlotZero_changes, State.promote_changes]
  exact decided s.turns

theorem engineLaw_reset : EngineLaw State.reset := EngineLaw.of_halted rfl

theorem EngineLaw.restart {s : State} (straps : Address) (why : StartReason) : EngineLaw (s.restart straps why) := by
  rw [State.restart_eq]
  exact engineLaw_reset

theorem keeps_engineLaw : Keeps EngineLaw where
  tick law _ := law
  pin law := law
  restart straps why _ := EngineLaw.restart straps why
  holdPin {s} _ := EngineLaw.of_halted (by
    unfold State.holdPin
    rw [State.haltEngine_eq]
    exact State.halts_engine _)
  link side _ law := by cases side <;> exact law
  count _ law := law
  event _ _ _ law := by rw [State.offerEvent_changes]; exact law
  through _ law _ := law
  takeData _ law := by rw [State.takeData_changes]; exact law
  takeSync n law := law.takeSync n
  pass _ _ law := by rw [State.applyPass_changes]; exact law
  execute {s broadcast a q} straps law _ := by
    refine State.execute_cases (motive := EngineLaw) s a q straps (same := law) (ports := law) ?map ?config
      (fun _ => ?shadow) ?length ?line (settings := law.doWriteSettings q) (fun _ _ => ?record) ?copy (fun _ => ?swap) ?cancel
      (lock := law.restartLock) (soft := EngineLaw.softReset) (full := EngineLaw.restart straps .full) fun _ => ?lease
    case map => rw [State.doWriteMap_changes]; exact law
    case config => rw [State.doWriteConfig_changes]; exact law
    case shadow =>
      unfold State.writeShadow
      dsimp only
      repeat' split
      all_goals exact law
    case length =>
      unfold State.writeLength
      dsimp only
      repeat' split
      all_goals exact law
    case line => rw [State.doWriteLine_changes]; exact law
    case record => rw [State.executeRecord_changes]; exact law
    case copy =>
      unfold State.askCopy
      split <;> exact law
    case swap =>
      unfold State.askSwap
      repeat' split
      all_goals exact law
    case cancel =>
      unfold State.cancelSwap
      split <;> exact law
    case lease => rw [State.executeLease_changes]; exact law
  push _ law _ := law
  cache _ law := law
  copyStep law _ _ := law
  finishCopy law _ _ := law
  unitStep law _ _ _ := law
  expireLease law _ := by rw [State.expireLease_changes]; exact law
  boundary _ := EngineLaw.boundary _
  beginSlot law _ := by rw [State.beginSlot_changes]; exact law
  beginGuard _ law := by rw [State.beginGuard_changes]; exact law
  cellTime law _ := by rw [State.fillCellTime_changes]; exact law
  openWindow law _ := law
  endWindow law _ := law.endWindow _

/-- Settles O59: each of the two laws is kept by itself. -/
theorem engineRunsOnlyInLock : Obligations.EngineRunsOnlyInLock := fun _ _ run =>
  ⟨fun law => keeps_lockLaw.step (fun _ _ law => law) law run, fun law => keeps_engineLaw.step (fun _ _ law => law) law run⟩

end Sys2Proof.Machine
end
section
/-! The shape of the cycle under every step (R1 to R5, R77). -/

namespace Sys2Proof.Machine

/-- The trims within R5's limits. -/
def Timer.TrimsLimited (t : Timer) : Prop := (-64 ≤ t.trim ∧ t.trim ≤ 64) ∧ ∀ v, t.nextTrim = some v → -64 ≤ v ∧ v ≤ 64

/-- A timer within its cycle as another, its trims limited: what renumberings, trims and placements keep (R5, R8, R9). -/
structure Timer.AsShaped (t u : Timer) : Prop where
  length : t.length = u.length
  guardBase : t.guardBase = u.guardBase
  start : t.start = u.start
  position : t.position = u.position
  trims : u.TrimsLimited → t.TrimsLimited

theorem limited_range (e : Int) : -64 ≤ limited e ∧ limited e ≤ 64 := by
  unfold limited
  split_ifs <;> omega

theorem Timer.AsShaped.refl (t : Timer) : t.AsShaped t := ⟨rfl, rfl, rfl, rfl, id⟩

theorem Timer.AsShaped.trans {t u v : Timer} (first : t.AsShaped u) (second : u.AsShaped v) : t.AsShaped v :=
  ⟨first.length.trans second.length, first.guardBase.trans second.guardBase, first.start.trans second.start,
    first.position.trans second.position, first.trims ∘ second.trims⟩

theorem State.trims_asShaped (s : State) (w : Window) {v : Int} (range : -64 ≤ v ∧ v ≤ 64) :
    (s.trims w v).timer.AsShaped s.timer := by
  unfold State.trims
  split
  · exact ⟨rfl, rfl, rfl, rfl, fun limits => ⟨range, limits.2⟩⟩
  · exact ⟨rfl, rfl, rfl, rfl, fun limits => ⟨limits.1, fun u filed => Option.some.inj filed ▸ range⟩⟩

theorem State.slips_asShaped (s : State) (w : Window) (n : Word16) : (s.slips w n).timer.AsShaped s.timer := by
  unfold State.slips
  split
  · exact .refl _
  · split <;> rw [State.offerEvent_timer] <;> exact ⟨rfl, rfl, rfl, rfl, id⟩

theorem State.measured_asShaped (s : State) (w : Window) (n : Word16) : (s.measured w n).timer.AsShaped s.timer :=
  (State.trims_asShaped _ w (limited_range _)).trans (State.slips_asShaped (s.spends w) w n)

theorem State.seeds_asShaped (s : State) (n : Word16) : (s.seeds n).timer.AsShaped s.timer := by
  unfold State.seeds
  dsimp only
  rw [State.offerEvent_timer, State.halts_changes]
  have zero : -64 ≤ (0 : Int) ∧ (0 : Int) ≤ 64 := by decide
  exact ⟨rfl, rfl, rfl, rfl, fun _ => ⟨zero, nofun⟩⟩

theorem State.unlocks_timer (s : State) (why : Word16) : (s.unlocks why).timer = s.timer := by
  rw [State.unlocks_changes]

theorem State.takeSync_asShaped (s : State) (n : Word16) : (s.takeSync n).timer.AsShaped s.timer := by
  refine State.takeSync_cases (motive := fun t => t.timer.AsShaped s.timer) (fun _ => .refl _)
    (fun _ _ => s.seeds_asShaped n) (fun w _ _ _ => ?_) (fun w _ _ => ?_) fun w _ _ => ?_
  · have trimmed := (s.spends w).trims_asShaped w (limited_range (s.phase w))
    rw [State.measureAcquiring_eq]
    split_ifs
    · rw [State.offerEvent_timer]; exact trimmed
    · exact trimmed
    · exact s.seeds_asShaped n
  · rw [State.measureTracking_eq]
    split_ifs
    · exact s.measured_asShaped w n
    · rw [State.unlocks_timer]; exact s.measured_asShaped w n
    · exact s.measured_asShaped w n
  · rw [State.measureHoldover_eq]
    split_ifs
    · rw [State.offerEvent_timer]; exact s.measured_asShaped w n
    · rw [State.unlocks_timer]; exact s.measured_asShaped w n
    · rw [State.unlocks_timer]; exact s.measured_asShaped w n
    · exact s.measured_asShaped w n

theorem State.endWindow_asShaped (s : State) (w : Window) : (s.endWindow w).timer.AsShaped s.timer := by
  unfold State.endWindow
  split
  · exact .refl _
  · rw [State.missWindow_changes, State.handTrim_eq]
    exact s.trims_asShaped w (by decide)

namespace TimerLaw

variable {s : State} (law : TimerLaw s)
include law

/-- Within a cycle: the timer shaped as before, later ticks, the outputs empty or as before. -/
theorem within {t : State} (timer : t.timer.AsShaped s.timer) (now : s.now ≤ t.now) (begun : t.uBegun = s.uBegun)
    (dOut : t.dOut = none ∨ t.dOut = s.dOut) (uOut : t.uOut = none ∨ t.uOut = s.uOut) : TimerLaw t := by
  obtain ⟨least, most, base, base', trim, nextTrim, start, slot, guard⟩ := law
  obtain ⟨length_eq, base_eq, start_eq, position_eq, trims⟩ := timer
  obtain ⟨trim, nextTrim⟩ := trims ⟨trim, nextTrim⟩
  unfold TimerLaw
  rw [length_eq, base_eq, start_eq, position_eq, begun]
  refine ⟨least, most, base, base', trim, nextTrim, start.trans now, slot, fun inGuard => ?_⟩
  obtain ⟨dNone, uNone⟩ := guard inGuard
  exact ⟨dOut.elim id (·.trans dNone), uOut.elim id (·.trans uNone)⟩

theorem boundary (ranges : SettingsLaw s) : TimerLaw s.boundary := by
  obtain ⟨-, -, -, -, -, nextTrim, -⟩ := law
  obtain ⟨base, base', -⟩ := ranges
  have length (b : Bank) : 8 ≤ b.cycleLength ∧ b.cycleLength ≤ 1024 := by
    rw [Bank.cycleLength_eq]
    split
    next valid => exact valid
    · decide
  have trim : -64 ≤ s.timer.nextTrim.getD 0 ∧ s.timer.nextTrim.getD 0 ≤ 64 := by
    cases filed : s.timer.nextTrim with
    | none => decide
    | some v => exact nextTrim v filed
  rw [State.boundary_changes]
  refine ⟨(length _).1, (length _).2, base, base', trim, nofun, Nat.le_max_right .., fun k slot => ?_, nofun⟩
  obtain rfl : 0 = k := Position.slot.inj slot
  exact ⟨Nat.lt_of_lt_of_le (by decide) (length _).1, Nat.zero_le _⟩

theorem beginSlot {k : Nat} (next : s.nextSlot = some k) : TimerLaw (s.beginSlot k) := by
  obtain ⟨least, most, base, base', trim, nextTrim, start, slot, -⟩ := law
  rw [State.beginSlot_changes]
  refine ⟨least, most, base, base', trim, nextTrim, start.trans (Nat.le_max_left ..), fun j at_ => ?_, nofun⟩
  obtain rfl : k = j := Position.slot.inj at_
  unfold State.nextSlot at next
  split at next
  next i at' =>
    split at next
    next runs =>
      obtain rfl := Option.some.inj next
      obtain ⟨-, begun⟩ := slot i at'
      simp [Timer.slotRuns] at runs
      exact ⟨runs.1, begun.trans (Nat.le_succ _)⟩
    · cases next
  · cases next

theorem beginGuard (t : Nat) : TimerLaw (s.beginGuard t) := by
  obtain ⟨least, most, base, base', trim, nextTrim, start, -, -⟩ := law
  rw [State.beginGuard_changes]
  exact ⟨least, most, base, base', trim, nextTrim, start.trans (Nat.le_max_left ..), nofun, fun _ => ⟨rfl, rfl⟩⟩

theorem cellTime {k : Nat} (next : s.nextCellTime = some k) : TimerLaw (({ s with uBegun := k + 1 } : State).fillCellTime k) := by
  obtain ⟨least, most, base, base', trim, nextTrim, start, slot, -⟩ := law
  unfold State.nextCellTime at next
  split at next
  next i at_ =>
    split at next
    · obtain rfl := Option.some.inj next
      rw [State.fillCellTime_changes]
      refine ⟨least, most, base, base', trim, nextTrim, start, fun j at' => ?_, fun inGuard => ?_⟩
      · obtain rfl : i = j := Position.slot.inj (at_.symm.trans at')
        exact ⟨(slot i at_).1, le_rfl⟩
      · cases at_.symm.trans inGuard
    · cases next
  · cases next

end TimerLaw

theorem timerLaw_reset : TimerLaw State.reset := by
  refine ⟨by decide, by decide, by decide, by decide, by decide, nofun, le_rfl, fun k slot => ?_, nofun⟩
  obtain rfl : 0 = k := Position.slot.inj slot
  decide

theorem TimerLaw.restart {s : State} (straps : Address) (why : StartReason) : TimerLaw (s.restart straps why) := by
  obtain ⟨least, most, base, base', trim, nextTrim, -, slot, guard⟩ := timerLaw_reset
  rw [State.restart_eq]
  exact ⟨least, most, base, base', trim, nextTrim, le_rfl, slot, guard⟩

theorem keeps_settingsAndTimer : Keeps fun s => SettingsLaw s ∧ TimerLaw s where
  tick law later := ⟨law.1, law.2.within (.refl _) later rfl (.inr rfl) (.inr rfl)⟩
  pin law := law
  restart straps why _ := ⟨SettingsLaw.restart straps why, TimerLaw.restart straps why⟩
  holdPin law := by
    rw [State.holdPin_changes]
    exact ⟨law.1, law.2.within (.refl _) le_rfl rfl (.inl rfl) (.inl rfl)⟩
  link side _ law := by cases side <;> exact law
  count _ law := law
  event _ _ _ law := by rw [State.offerEvent_changes]; exact law
  through _ law _ := law
  takeData _ law := by rw [State.takeData_changes]; exact law
  takeSync {s} n law := by
    have shaped := s.takeSync_asShaped n
    rw [State.takeSync_changes] at shaped ⊢
    exact ⟨law.1, law.2.within shaped le_rfl rfl (.inr rfl) (.inr rfl)⟩
  pass _ _ law := by rw [State.applyPass_changes]; exact law
  execute {s broadcast a q} straps law passed := by
    refine ⟨keeps_settingsLaw.execute straps law.1 passed, ?_⟩
    obtain ⟨-, law⟩ := law
    refine State.execute_cases (motive := TimerLaw) s a q straps (same := law) (ports := law) ?map ?config
      (fun _ => ?shadow) ?length ?line ?settings (fun _ _ => ?record) ?copy (fun _ => ?swap) ?cancel ?lock ?soft
      (full := TimerLaw.restart straps .full) fun _ => ?lease
    case map => rw [State.doWriteMap_changes]; exact law
    case config => rw [State.doWriteConfig_changes]; exact law
    case shadow => rw [State.writeShadow_changes]; exact law
    case length => rw [State.writeLength_changes]; exact law
    case line => rw [State.doWriteLine_changes]; exact law
    case settings => rw [State.doWriteSettings_changes]; exact law
    case record => rw [State.executeRecord_changes]; exact law
    case copy => rw [State.askCopy_changes]; exact law
    case swap => rw [State.askSwap_changes]; exact law
    case cancel => rw [State.cancelSwap_changes]; exact law
    case lock => rw [State.restartLock_changes]; exact law
    case soft => rw [State.softReset_changes]; exact law
    case lease => rw [State.executeLease_changes]; exact law
  push _ law _ := law
  cache _ law := law
  copyStep law _ _ := law
  finishCopy law _ _ := law
  unitStep law _ _ _ := law
  expireLease law _ := by rw [State.expireLease_changes]; exact law
  boundary law := ⟨keeps_settingsLaw.boundary law.1, law.2.boundary law.1⟩
  beginSlot law next := ⟨keeps_settingsLaw.beginSlot law.1 next, law.2.beginSlot next⟩
  beginGuard t law := ⟨keeps_settingsLaw.beginGuard t law.1, law.2.beginGuard t⟩
  cellTime law next := ⟨keeps_settingsLaw.cellTime law.1 next, law.2.cellTime next⟩
  openWindow law _ := law
  endWindow {s w} law _ := by
    have shaped := s.endWindow_asShaped w
    rw [State.endWindow_changes] at shaped ⊢
    exact ⟨law.1, law.2.within shaped le_rfl rfl (.inr rfl) (.inr rfl)⟩

/-- Settles O60: the ranges of the settings, which a boundary's guard base needs, are kept along with the timer's law. -/
theorem cyclesKeepTheirShape : Obligations.CyclesKeepTheirShape := fun _ _ ranges law run =>
  (keeps_settingsAndTimer.step (fun _ _ law => law) ⟨ranges, law⟩ run).2

end Sys2Proof.Machine
end
section
/-! What admission, slots, boundaries, soft resets and record commands leave of a record: its binding, and whether it is UNUSED
(R15, R18, R22). -/

namespace Sys2Proof.Machine

/-- The binding is as before, and the record UNUSED exactly when it was. -/
structure Record.StandsAs (x y : Record) : Prop where
  bound : x.bound = y.bound
  unused : x.state = .unused ↔ y.state = .unused

theorem Record.StandsAs.refl (x : Record) : x.StandsAs x := ⟨rfl, Iff.rfl⟩

/-- Every record stands as in `s`. -/
def State.StandsAs (t s : State) : Prop := ∀ r, (t.record r).StandsAs (s.record r)

namespace State.StandsAs

theorem refl (s : State) : s.StandsAs s := fun _ => .refl _

theorem trans {s t u : State} (second : u.StandsAs t) (first : t.StandsAs s) : u.StandsAs s := fun r =>
  ⟨(second r).bound.trans (first r).bound, (second r).unused.trans (first r).unused⟩

theorem of_records {s t : State} (records : t.records = s.records) : t.StandsAs s := fun r => by
  rw [State.record_congr records]
  exact .refl _

theorem setRecord (s : State) {r : RecordIndex} {x : Record} (stands : x.StandsAs (s.record r)) : (s.setRecord r x).StandsAs s := by
  intro r'
  rw [State.record_setRecord]
  split
  next same => exact same ▸ stands
  · exact .refl _

theorem ofState {s t : State} {r : RecordIndex} {x : Record} (stands : t.StandsAs s) (state : x.state = (t.record r).state)
    (bound : x.bound = (t.record r).bound) : (t.setRecord r x).StandsAs s :=
  (setRecord t ⟨bound, state ▸ Iff.rfl⟩).trans stands

/-- One function over every record. -/
theorem of_mapAll {s t : State} {f : Record → Record} (records : t.records = mapAll f s.records) (keeps : ∀ x, (f x).StandsAs x) :
    t.StandsAs s := by
  intro r
  have value : t.record r = f (s.record r) := by simp [State.record, records]
  rw [value]
  exact keeps _

/-! ### Cells admitted and released -/

theorem takeData (s : State) (c : Cell) : (s.takeData c).StandsAs s := by
  have refused (r : RecordIndex) : (s.refuseCell r).StandsAs s := ofState (.refl s) rfl rfl
  have replaced (r : RecordIndex) : (s.replaceHead r c).StandsAs s := ofState (.refl s) rfl rfl
  have placed (r : RecordIndex) : (s.placeCell r c).StandsAs s := by
    unfold State.placeCell
    dsimp only
    split
    · split
      · exact ofState (t := { s with free := s.free - 1 }) (.of_records rfl) rfl rfl
      · split
        · exact replaced r
        · rw [State.poolExhausted_changes]
          exact refused r
    · split
      · exact refused r
      · exact replaced r
  unfold State.takeData
  split
  · unfold State.offerPass
    rw [State.applyPass_changes]
    exact .of_records rfl
  · exact .of_records rfl
  next r _ =>
    unfold State.offerRecord
    cases (s.record r).state with
    | filling | starting | running | paused => exact placed r
    | idle | faulted => exact refused r
    | unused => exact .refl s

theorem fillKeeps (s : State) : State.FillKeeps (·.StandsAs s) where
  sends _ _ _ stands := stands
  record stands state bound := stands.ofState state bound
  stage _ stands _ _ := stands
  fault {t r} stands running := by
    have flushed : (t.flushQueue r).StandsAs t := setRecord { t with free := _ } ⟨rfl, Iff.rfl⟩
    have faulted : ((t.flushQueue r).setRecord r { (t.flushQueue r).record r with state := .faulted, lastValue := none }).StandsAs
        (t.flushQueue r) := by
      refine setRecord _ ⟨rfl, ?_⟩
      rw [(flushed r).unused, running]
      exact iff_of_false (by simp) (by decide)
    unfold State.faultRecord
    dsimp only
    rw [State.offerEvent_changes]
    exact (faulted.trans flushed).trans stands

theorem beginSlot (s : State) (k : Nat) : (s.beginSlot k).StandsAs s := by
  refine (fillKeeps s).fillSlot ?_ k
  rw [State.endSlot_eq]
  exact .of_records rfl

theorem boundary (s : State) : s.boundary.StandsAs s := by
  have promoted (x : Record) : x.promote.StandsAs x := by
    unfold Record.promote
    split
    next starting => exact ⟨rfl, by simp [starting]⟩
    · exact .refl x
  have promotes (t : State) : t.promote.StandsAs t := by
    unfold State.promote
    split
    · exact .refl t
    · exact (of_records (State.offerEach_records ..)).trans (of_mapAll rfl promoted)
  have decided : s.turns.decideEngine.StandsAs s := by
    rw [State.decideEngine_changes, State.turns_changes]
    exact .of_records rfl
  rw [State.boundary_eq, State.fillSlotZero_changes]
  exact (promotes _).trans decided

theorem softReset (s : State) : s.softReset.StandsAs s := by
  rw [State.softReset_changes]
  refine of_mapAll (f := Record.softReset) rfl fun x => ?_
  unfold Record.softReset
  cases state : x.state with
  | unused => exact ⟨rfl, by simp [state]⟩
  | idle | filling | starting | running | paused | faulted => exact ⟨rfl, by simp [state]⟩

/-! ### Record commands -/

/-- A state other than UNUSED taken from another. -/
theorem restate (s : State) {r : RecordIndex} {x : Record} (bound : x.bound = (s.record r).bound) (used : (s.record r).state ≠ .unused)
    (state : x.state ≠ .unused) : (s.setRecord r x).StandsAs s :=
  setRecord s ⟨bound, iff_of_false state used⟩

theorem executeRecord (s : State) (c : RecordCommand) (r : RecordIndex) (kept : c ≠ .release) :
    (s.executeRecord c r).1.StandsAs s := by
  have stopped (used : (s.record r).state ≠ .unused) : (s.stopRecord r).StandsAs s := by
    have flushed : (s.flushQueue r).StandsAs s := setRecord { s with free := _ } ⟨rfl, Iff.rfl⟩
    have idle : ((s.flushQueue r).setRecord r
        { (s.flushQueue r).record r with state := .idle, misses := 0, lastValue := none }).StandsAs (s.flushQueue r) :=
      restate _ rfl (by rwa [ne_eq, (flushed r).unused]) (by simp)
    exact idle.trans flushed
  cases c with
  | release => cases kept rfl
  | fill =>
    unfold State.executeRecord State.doFill
    dsimp only
    cases state : (s.record r).state with
    | idle | faulted => exact restate s rfl (by simp [state]) (by simp)
    | filling | unused | starting | running | paused => exact .refl s
  | start =>
    unfold State.executeRecord State.doStart
    dsimp only
    cases state : (s.record r).state with
    | idle | filling | faulted => exact restate s rfl (by simp [state]) (by simp)
    | unused | starting | running | paused => exact .refl s
  | pause =>
    unfold State.executeRecord State.doPause
    dsimp only
    cases state : (s.record r).state with
    | running => exact restate s rfl (by simp [state]) (by simp)
    | idle | filling | faulted | unused | starting | paused => exact .refl s
  | resume =>
    unfold State.executeRecord State.doResume
    dsimp only
    cases state : (s.record r).state with
    | paused => exact restate s rfl (by simp [state]) (by simp)
    | idle | filling | faulted | unused | starting | running => exact .refl s
  | stop =>
    unfold State.executeRecord State.doStop
    dsimp only
    cases state : (s.record r).state with
    | filling | starting | running | paused | faulted => exact stopped (by simp [state])
    | idle | unused => exact .refl s
  | clearCounters =>
    unfold State.executeRecord State.doClearCounters
    dsimp only
    cases state : (s.record r).state with
    | unused => exact .refl s
    | idle | filling | starting | running | paused | faulted => exact restate s rfl (by simp [state]) (by simp)

end State.StandsAs

end Sys2Proof.Machine
end
section
/-! Map and records keep agreeing under every step (R15, R17, R18, R27). -/

namespace Sys2Proof.Machine

/-! ### Writes of the map and of configurations -/

/-- The check of a MAP write that finds nothing gives every entry a value and passes it (R17). -/
theorem State.mapCheck_passed {s : State} {q : Request} (passes : s.mapCheck (mapWrites q) [] = none) :
    ∃ e : Nat → MapEntry,
      ∀ j < q.count.toNat, s.mapJudgement q j = none ∧ MapEntry.ofWord (dataWord q.data (2 * j)) = some (e j) := by
  have passed : ∀ j < q.count.toNat, s.mapJudgement q j = none := by
    simpa [State.mapCheck_eq, List.findSome?_eq_none_iff] using passes
  refine ⟨fun j => (MapEntry.ofWord (dataWord q.data (2 * j))).getD .drop, fun j hj => ⟨passed j hj, ?_⟩⟩
  have judged := passed j hj
  unfold State.mapJudgement at judged
  cases value : MapEntry.ofWord (dataWord q.data (2 * j)) with
  | none => rw [value] at judged; cases judged
  | some e => simp [value]

theorem BindingLaw.doWriteMap {s : State} (law : BindingLaw s) (q : Request) : BindingLaw (s.doWriteMap q).1 := by
  cases check : s.mapCheck (mapWrites q) [] with
  | some refusal => simp only [State.doWriteMap, check]; exact law
  | none =>
    obtain ⟨e, passed⟩ := State.mapCheck_passed check
    rw [State.doWriteMap_applied passed]
    exact ((State.acceptsMap_of_judgement passed).rebinds law le_rfl).1

namespace BindingLaw

variable {s : State} (law : BindingLaw s)
include law

/-- The law reads the map, the bindings and which records are UNUSED. -/
theorem of_stands {t : State} (map : t.map = s.map) (stands : t.StandsAs s) : BindingLaw t := by
  obtain ⟨agree, unused⟩ := law
  have entry (id : StreamId) : t.mapEntry id = s.mapEntry id := by simp [State.mapEntry, map]
  refine ⟨fun id r => ?_, fun r state => ?_⟩
  · rw [entry, (stands r).bound, agree]
  · rw [(stands r).bound, unused r ((stands r).unused.mp state)]

/-- A record configured keeps its binding: an UNUSED one has none (R20). -/
theorem configure (r : RecordIndex) (c : RecordConfig) : BindingLaw (s.setRecord r ((s.record r).configure c)) := by
  obtain ⟨agree, unused⟩ := law
  have kept : ((s.record r).configure c).bound = (s.record r).bound ∧ ((s.record r).configure c).state ≠ .unused := by
    rw [Record.configure_eq]
    split
    next state => exact ⟨(unused r state).symm, by simp⟩
    next used => exact ⟨rfl, used⟩
  have bound (r' : RecordIndex) : ((s.setRecord r ((s.record r).configure c)).record r').bound = (s.record r').bound := by
    rw [State.record_setRecord]
    split
    next same => rw [same, kept.1]
    · rfl
  refine ⟨fun id r' => by rw [bound]; exact agree id r', fun r' state => ?_⟩
  rw [bound]
  rw [State.record_setRecord] at state
  split at state
  · exact absurd state kept.2
  · exact unused r' state

theorem doWriteConfig (q : Request) : BindingLaw (s.doWriteConfig q).1 := by
  have applied (writes : List (RecordIndex × Option RecordConfig)) : BindingLaw (s.applyConfigs writes) := by
    induction writes generalizing s with
    | nil => exact law
    | cons write writes ih =>
      obtain ⟨r, _ | c⟩ := write
      · exact ih law
      · exact ih (law.configure r c)
  unfold State.doWriteConfig
  dsimp only
  split
  · exact law
  · exact applied _

/-- A RELEASE takes the record out of the map with its binding (R27). -/
theorem releaseRecord (r : RecordIndex) : BindingLaw (s.releaseRecord r) := by
  obtain ⟨agree, unused⟩ := law
  have records (r' : RecordIndex) : (s.releaseRecord r).record r' = if r' = r then Record.unused else s.record r' := by
    unfold State.releaseRecord
    cases (s.record r).bound <;> exact State.record_setRecord ..
  have entries (id : StreamId) :
      (s.releaseRecord r).mapEntry id = if (s.record r).bound = some id then .drop else s.mapEntry id := by
    unfold State.releaseRecord
    cases bound : (s.record r).bound with
    | none => rfl
    | some id' =>
      have written : (s.setMapEntry id' .drop).mapEntry id = if id = id' then .drop else s.mapEntry id :=
        State.mapEntry_setMapEntry ..
      simp only [Option.some.injEq, eq_comm (a := id'), ← written]
      rfl
  refine ⟨fun id r' => ?_, fun r' state => ?_⟩
  · rw [entries, records]
    have before := agree id r'
    have own := agree id r
    by_cases same : r' = r
    · subst same
      rw [if_pos rfl]
      split <;> simp_all [Record.unused]
    · rw [if_neg same]
      split
      next held =>
        have other : s.mapEntry id ≠ .bound r' := fun named => same (MapEntry.bound.inj (named.symm.trans (own.mpr held)))
        exact iff_of_false nofun fun bound => other (before.mpr bound)
      · exact before
  · rw [records] at state ⊢
    split at state
    next same => rw [if_pos same]; rfl
    next other => rw [if_neg other]; exact unused r' state

theorem executeRecord (c : RecordCommand) (r : RecordIndex) : BindingLaw (s.executeRecord c r).1 := by
  by_cases release : c = .release
  · subst release
    unfold State.executeRecord State.doRelease
    dsimp only
    cases (s.record r).state with
    | idle =>
      dsimp only
      split
      · exact law
      · exact law.releaseRecord r
    | unused | filling | starting | running | paused | faulted => exact law
  · have map : (s.executeRecord c r).1.map = s.map := by
      cases c with
      | release => exact absurd rfl release
      | fill => unfold State.executeRecord State.doFill; dsimp only; split <;> rfl
      | start => unfold State.executeRecord State.doStart; dsimp only; split <;> rfl
      | pause => unfold State.executeRecord State.doPause; dsimp only; split <;> rfl
      | resume => unfold State.executeRecord State.doResume; dsimp only; split <;> rfl
      | stop => unfold State.executeRecord State.doStop; dsimp only; split <;> rfl
      | clearCounters => unfold State.executeRecord State.doClearCounters; dsimp only; split <;> rfl
    exact law.of_stands map (State.StandsAs.executeRecord s c r release)

end BindingLaw

theorem bindingLaw_reset : BindingLaw State.reset := by
  have record (r : RecordIndex) : State.reset.record r = Record.unused := by simp [State.record, State.reset, State.cleared]
  have entry (id : StreamId) : State.reset.mapEntry id = .pass := by simp [State.mapEntry, State.reset, State.cleared]
  exact ⟨fun id r => by rw [record, entry]; exact iff_of_false nofun nofun, fun r _ => by rw [record]; rfl⟩

theorem BindingLaw.restart {s : State} (straps : Address) (why : StartReason) : BindingLaw (s.restart straps why) := by
  rw [State.restart_eq]
  exact bindingLaw_reset

theorem keeps_bindingLaw : Keeps BindingLaw where
  tick law _ := law
  pin law := law
  restart straps why _ := BindingLaw.restart straps why
  holdPin law := by rw [State.holdPin_changes]; exact law
  link side _ law := by cases side <;> exact law
  count _ law := law
  event _ _ _ law := by rw [State.offerEvent_changes]; exact law
  through _ law _ := law
  takeData {s} c law := law.of_stands (by rw [State.takeData_changes]) (State.StandsAs.takeData s c)
  takeSync _ law := by rw [State.takeSync_changes]; exact law
  pass _ _ law := by rw [State.applyPass_changes]; exact law
  execute {s broadcast a q} straps law _ := by
    refine State.execute_cases (motive := BindingLaw) s a q straps (same := law) (map := law.doWriteMap q)
      (config := law.doWriteConfig q) (fun _ => ?shadow) ?length ?line ?settings (record := law.executeRecord) ?copy
      (fun _ => ?swap) ?cancel ?lock (ports := law) ?soft (full := BindingLaw.restart straps .full) fun _ => ?lease
    case shadow => rw [State.writeShadow_changes]; exact law
    case length => rw [State.writeLength_changes]; exact law
    case line => rw [State.doWriteLine_changes]; exact law
    case settings => rw [State.doWriteSettings_changes]; exact law
    case copy => rw [State.askCopy_changes]; exact law
    case swap => rw [State.askSwap_changes]; exact law
    case cancel => rw [State.cancelSwap_changes]; exact law
    case lock => rw [State.restartLock_changes]; exact law
    case soft => exact law.of_stands (by rw [State.softReset_changes]) (State.StandsAs.softReset s)
    case lease => rw [State.executeLease_changes]; exact law
  push _ law _ := law
  cache _ law := law
  copyStep law _ _ := law
  finishCopy law _ _ := law
  unitStep law _ _ _ := law
  expireLease law _ := by rw [State.expireLease_changes]; exact law
  boundary {s} law := law.of_stands (by rw [State.boundary_changes]) (State.StandsAs.boundary s)
  beginSlot {s k} law _ := law.of_stands (by rw [State.beginSlot_changes]) (State.StandsAs.beginSlot s k)
  beginGuard _ law := by rw [State.beginGuard_changes]; exact law
  cellTime law _ := by rw [State.fillCellTime_changes]; exact law
  openWindow law _ := law
  endWindow law _ := by rw [State.endWindow_changes]; exact law

/-- Settles O57: only MAP writes, allocations and releases touch a binding, and each of them keeps map and records agreed. -/
theorem mapAndRecordsAgree : Obligations.MapAndRecordsAgree := fun _ _ law run =>
  keeps_bindingLaw.step (fun _ _ law => law) law run

end Sys2Proof.Machine
end
section
/-! The plans keep naming records in use and fitting the window, under every step (R56, R60 to R72, R115). -/

namespace Sys2Proof.Machine

/-! ### Banks -/

/-- A sound bank that is not empty is valid. -/
theorem Bank.valid_of_sound {b : Bank} (sound : b.sound) (filled : b.length ≠ 0) : b.valid = true := by
  rw [Bank.valid_iff]
  exact sound.1.resolve_left filled

theorem Bank.sound_withLength {b : Bank} (sound : b.sound) {n : Nat} (fits : n = 0 ∨ 8 ≤ n ∧ n ≤ 1024) :
    ({ b with length := n } : Bank).sound := ⟨fits, sound.2⟩

/-- What is written from slot 1 on leaves the length and the reserved slot 0 (R60). -/
theorem Bank.writeSlots_keeps (b : Bank) (writes : List (Nat × Word16)) (above : ∀ e ∈ writes, e.1 ≠ 0) :
    (b.writeSlots writes).length = b.length ∧ (b.writeSlots writes).entry 0 = b.entry 0 := by
  induction writes generalizing b with
  | nil => exact ⟨rfl, rfl⟩
  | cons write writes ih =>
    obtain ⟨k, w⟩ := write
    have k0 : k ≠ 0 := above (k, w) (by simp)
    have rest (b : Bank) := ih b fun e he => above e (by simp [he])
    unfold Bank.writeSlots
    split
    next e _ =>
      obtain ⟨length, entry⟩ := rest (b.setEntry k e)
      exact ⟨by rw [length, Bank.length_setEntry], by rw [entry, Bank.entry_setEntry, if_neg fun at_ => k0 at_.1.symm]⟩
    · exact rest b

/-- A copy leaves a sound shadow sound: its length stays, and entry 0 is one of two QUIET ones (R63). -/
theorem copyEntries_sound {active shadow : Bank} (source : active.sound) (target : shadow.sound) {k n : Nat} (fits : k + n ≤ 1024) :
    (copyEntries active shadow k n).sound := by
  refine ⟨by rw [copyEntries_length]; exact target.1, ?_⟩
  rw [copyEntries_entry _ _ _ _ _ fits]
  split
  · exact source.2
  · exact target.2

/-- A request that passed the form check of SHADOW_SLOT begins past the reserved slot 0 (R60, R163). -/
theorem State.first_ne_zero_of_passed {s : State} {broadcast : Bool} {q : Request}
    (passed : s.refusalOf broadcast (.write .shadowSlot) q = none) : q.first ≠ 0 := by
  intro zero
  have refused : (Ask.formRefusal (.write .shadowSlot) q).isSome := by
    unfold Ask.formRefusal
    simp only [zero]
    cases rangeRefusal .shadowSlot q <;> rfl
  obtain ⟨answer, refused⟩ := Option.isSome_iff_exists.mp refused
  simp [State.refusalOf, refused] at passed

/-! ### The law in its parts -/

/-- What a plan that is active or pending is held to (R65, R70). -/
def State.Fits (s : State) (b : Bank) : Prop := s.namesUsed b ∧ s.windowFits b

/-- What the shadow condition says of the banks (R62, R65, R66). -/
def State.ConditionHolds (s : State) : Prop :=
  match s.banks.condition with
  | .free => True
  | .swapPending _ => s.banks.shadow.length ≠ 0 ∧ s.Fits s.banks.shadow
  | .copying _ done =>
    done < 64 ∧ s.banks.shadow.length = 0 ∧ ∀ k < 16 * done, s.banks.shadow.entry k = s.banks.active.entry k

theorem planLaw_iff (s : State) :
    PlanLaw s ↔ s.banks.active.sound ∧ s.banks.shadow.sound ∧ s.Fits s.banks.active ∧ s.ConditionHolds := by
  unfold PlanLaw State.ConditionHolds State.Fits
  cases s.banks.condition with
  | free | swapPending | copying => simp [and_assoc]

/-- A plan fits on as long as no record becomes UNUSED and the settings stay. -/
theorem State.Fits.of_used {s t : State} {b : Bank} (fits : s.Fits b) (settings : t.settings = s.settings)
    (used : ∀ r, (t.record r).state = .unused → (s.record r).state = .unused) : t.Fits b :=
  ⟨fun k r least below named unused => fits.1 k r least below named (used r unused),
    by unfold State.windowFits; rw [settings]; exact fits.2⟩

namespace PlanLaw

variable {s : State} (law : PlanLaw s)
include law

/-- The law reads the banks, the settings and which records are UNUSED. -/
theorem of_used {t : State} (banks : t.banks = s.banks) (settings : t.settings = s.settings)
    (used : ∀ r, (t.record r).state = .unused → (s.record r).state = .unused) : PlanLaw t := by
  rw [planLaw_iff] at law ⊢
  obtain ⟨active, shadow, fits, condition⟩ := law
  unfold State.ConditionHolds at condition ⊢
  rw [banks]
  refine ⟨active, shadow, fits.of_used settings used, ?_⟩
  split
  · trivial
  next pending => rw [pending] at condition; exact ⟨condition.1, condition.2.of_used settings used⟩
  next copying => rw [copying] at condition; exact condition

theorem of_stands {t : State} (banks : t.banks = s.banks) (settings : t.settings = s.settings) (stands : t.StandsAs s) :
    PlanLaw t := law.of_used banks settings fun r => (stands r).unused.mp

/-- Another shadow under the condition FREE has only to be sound. -/
theorem free {b : Bank} (sound : b.sound) : PlanLaw (s.withBanks fun banks => { banks with shadow := b, condition := .free }) := by
  rw [planLaw_iff] at law ⊢
  obtain ⟨active, -, fits, -⟩ := law
  exact ⟨active, sound, fits, trivial⟩

/-! ### COPY (R62, R63) -/

theorem askCopy : PlanLaw s.askCopy.1 := by
  unfold State.askCopy
  split
  · exact law
  · exact law
  · rw [planLaw_iff] at law ⊢
    obtain ⟨active, shadow, fits, -⟩ := law
    exact ⟨active, Bank.sound_withLength shadow (.inl rfl), fits, by decide, rfl, nofun⟩

theorem copyStep {takenAt done : Nat} (copying : s.banks.condition = .copying takenAt done) (more : done + 1 < 64) :
    PlanLaw (s.withBanks (·.copyStep takenAt done)) := by
  rw [planLaw_iff] at law ⊢
  obtain ⟨active, shadow, fits, condition⟩ := law
  unfold State.ConditionHolds at condition
  rw [copying] at condition
  obtain ⟨-, empty, written⟩ := condition
  have room : 16 * done + 16 ≤ 1024 := by omega
  refine ⟨active, copyEntries_sound active shadow room, fits, more, (copyEntries_length ..).trans empty, fun k below => ?_⟩
  change (copyEntries _ _ (16 * done) 16).entry k = _
  rw [copyEntries_entry _ _ _ _ _ room]
  split
  · rfl
  · exact written k (by omega)

theorem finishCopy {takenAt done : Nat} (copying : s.banks.condition = .copying takenAt done) :
    PlanLaw (s.withBanks (·.finishCopy done)) := by
  have lawful := (planLaw_iff s).mp law
  obtain ⟨active, shadow, fits, condition⟩ := lawful
  unfold State.ConditionHolds at condition
  rw [copying] at condition
  obtain ⟨few, -, -⟩ := condition
  have copied := copyEntries_sound active shadow (k := 16 * done) (n := 16) (by omega)
  exact law.free (Bank.sound_withLength copied active.1)

/-! ### Writes of the shadow (R60, R61) -/

theorem writeShadow {q : Request} (above : q.first ≠ 0) : PlanLaw (s.writeShadow q).1 := by
  have lawful := (planLaw_iff s).mp law
  obtain ⟨-, shadow, -, -⟩ := lawful
  have writes : ∀ e ∈ slotWrites q, e.1 ≠ 0 := by
    intro e he
    obtain ⟨j, -, rfl⟩ := List.mem_map.mp he
    have : q.first.toNat ≠ 0 := fun zero => above (BitVec.eq_of_toNat_eq zero)
    dsimp only
    omega
  obtain ⟨length, entry⟩ := s.banks.shadow.writeSlots_keeps _ writes
  have sound : (s.banks.shadow.writeSlots (slotWrites q)).sound := ⟨length ▸ shadow.1, entry.trans shadow.2⟩
  unfold State.writeShadow
  split
  · exact law
  · exact law
  next condition =>
    dsimp only
    split
    · exact law
    · have written := law.free sound
      rw [← condition] at written
      exact written

theorem writeLength (q : Request) : PlanLaw (s.writeLength q).1 := by
  have lawful := (planLaw_iff s).mp law
  obtain ⟨-, shadow, -, -⟩ := lawful
  unfold State.writeLength
  split
  · exact law
  · exact law
  next condition =>
    dsimp only
    split
    next fits =>
      have written := law.free (Bank.sound_withLength shadow fits)
      rw [← condition] at written
      exact written
    · exact law

/-! ### Swaps (R65 to R71) -/

omit law in
/-- The checks of R65 passed. -/
theorem of_shadowFault_none (passed : s.shadowFault = none) : s.banks.shadow.length ≠ 0 ∧ s.Fits s.banks.shadow := by
  unfold State.shadowFault at passed
  dsimp only at passed
  split_ifs at passed with valid short
  have valid : 8 ≤ s.banks.shadow.length ∧ s.banks.shadow.length ≤ 1024 := by simpa [Bank.valid_iff] using valid
  refine ⟨by omega, fun k r least below named unused => ?_, fun source _ => ?_⟩
  · split at passed
    · cases passed
    next none =>
      rw [Bank.firstSlot_eq_none] at none
      exact none k below least (by rw [named]; simpa [State.namesUnused] using unused)
  · have long : ¬s.banks.shadow.length * 512 ≤ s.settings.latency + s.settings.window := fun reach => short ⟨source, reach⟩
    omega

theorem askSwap (target : SwapTarget) : PlanLaw (s.askSwap target).1 := by
  unfold State.askSwap
  split
  · exact law
  · exact law
  · split
    · exact law
    next passed =>
      have accepted := of_shadowFault_none passed
      rw [planLaw_iff] at law ⊢
      obtain ⟨active, shadow, fits, -⟩ := law
      exact ⟨active, shadow, fits, accepted⟩

theorem cancelSwap : PlanLaw s.cancelSwap.1 := by
  have lawful := (planLaw_iff s).mp law
  obtain ⟨-, shadow, -, -⟩ := lawful
  unfold State.cancelSwap
  split
  · exact law.free shadow
  · exact law
  · exact law

/-- The plan that a boundary takes has been held to fit (R67, R68). -/
theorem atBoundary (n : Word16) : PlanLaw (s.withBanks (·.atBoundary n)) := by
  have lawful := (planLaw_iff s).mp law
  obtain ⟨active, shadow, fits, condition⟩ := lawful
  unfold Banks.atBoundary
  cases taken : s.banks.condition.takenAt n with
  | false => simp only [State.withBanks, taken]; exact law
  | true =>
    simp only [State.withBanks, taken]
    cases pending : s.banks.condition with
    | free | copying => simp [pending, ShadowCondition.takenAt] at taken
    | swapPending target =>
      unfold State.ConditionHolds at condition
      rw [pending] at condition
      exact (planLaw_iff _).mpr ⟨shadow, active, condition.2, trivial⟩

theorem softReset : PlanLaw s.softReset := by
  have stands := State.StandsAs.softReset s
  have lawful := (planLaw_iff s).mp law
  obtain ⟨-, shadow, -, -⟩ := lawful
  have banks : PlanLaw (s.withBanks Banks.softReset) := by
    unfold Banks.softReset State.withBanks
    dsimp only
    split
    · exact law.free (Bank.sound_withLength shadow (.inl rfl))
    · exact law.free shadow
    · exact law
  refine of_stands banks ?_ ?_ stands <;> rw [State.softReset_changes] <;> rfl

/-! ### Settings, and records released (R27, R72, R115) -/

theorem doWriteSettings (q : Request) : PlanLaw (s.doWriteSettings q).1 := by
  have lawful := (planLaw_iff s).mp law
  obtain ⟨active, shadow, fits, condition⟩ := lawful
  unfold State.doWriteSettings
  split
  · exact law
  next g _ =>
    split
    · exact law
    next passed =>
      have judged : g.source = .line → ¬(s.banks.active.valid = true ∧ g.overruns s.banks.active = true) ∧
          ∀ target, s.banks.condition = .swapPending target → g.overruns s.banks.shadow = false := by
        intro source
        simp only [State.settingsRefused, source] at passed
        refine ⟨fun reached => passed (by simp [reached]), fun target pending => ?_⟩
        rw [pending] at passed
        simpa using fun reached : g.overruns s.banks.shadow = true => passed (by simp [reached])
      have span {b : Bank} (short : g.overruns b = false) : g.latency + g.window < b.length * 512 :=
        Nat.not_le.mp (of_decide_eq_false short)
      have taken : PlanLaw { s with settings := g } := by
        refine (planLaw_iff _).mpr ⟨active, shadow, ⟨fits.1, fun source filled => span ?_⟩, ?_⟩
        · have kept := (judged source).1
          rw [Bank.valid_of_sound active filled] at kept
          simpa using kept
        · unfold State.ConditionHolds at condition ⊢
          dsimp only
          split
          · trivial
          next target pending =>
            rw [pending] at condition
            exact ⟨condition.1, condition.2.1, fun source _ => span ((judged source).2 target pending)⟩
          next copying => rw [copying] at condition; exact condition
      dsimp only
      split
      · exact taken
      · rw [State.restartLock_changes]; exact taken

/-- A record that no slot of the active plan or of a pending one names can become UNUSED (R27). -/
theorem releaseRecord {r : RecordIndex} (unnamed : s.banks.firstNaming r = none) : PlanLaw (s.releaseRecord r) := by
  have lawful := (planLaw_iff s).mp law
  obtain ⟨active, shadow, fits, condition⟩ := lawful
  have records (r' : RecordIndex) : (s.releaseRecord r).record r' = if r' = r then Record.unused else s.record r' := by
    unfold State.releaseRecord
    cases (s.record r).bound <;> exact State.record_setRecord ..
  have banks : (s.releaseRecord r).banks = s.banks ∧ (s.releaseRecord r).settings = s.settings := by
    unfold State.releaseRecord
    cases (s.record r).bound <;> exact ⟨rfl, rfl⟩
  have released {b : Bank} (fits : s.Fits b) (none : b.firstSlot (·.names r) = none) : (s.releaseRecord r).Fits b := by
    refine ⟨fun k r' least below named => ?_, by unfold State.windowFits; rw [banks.2]; exact fits.2⟩
    rw [records]
    split
    next same =>
      rw [Bank.firstSlot_eq_none] at none
      exact absurd (by rw [named, same]; simp [SlotEntry.names]) (none k below least)
    · exact fits.1 k r' least below named
  unfold Banks.firstNaming at unnamed
  split at unnamed
  · cases unnamed
  next outside =>
    unfold State.ConditionHolds at condition
    rw [planLaw_iff, State.ConditionHolds, banks.1]
    refine ⟨active, shadow, released fits outside, ?_⟩
    split
    · trivial
    next pending =>
      rw [pending] at condition unnamed
      exact ⟨condition.1, released condition.2 unnamed⟩
    next copying => rw [copying] at condition; exact condition

theorem executeRecord (c : RecordCommand) (r : RecordIndex) : PlanLaw (s.executeRecord c r).1 := by
  by_cases release : c = .release
  · subst release
    unfold State.executeRecord State.doRelease
    dsimp only
    cases (s.record r).state with
    | idle =>
      dsimp only
      split
      · exact law
      next unnamed => exact law.releaseRecord unnamed
    | unused | filling | starting | running | paused | faulted => exact law
  · refine law.of_stands ?_ ?_ (State.StandsAs.executeRecord s c r release) <;> rw [State.executeRecord_changes]

end PlanLaw

/-! ### Writes of map and configurations leave no record UNUSED that was not -/

theorem State.doWriteMap_state (s : State) (q : Request) (r : RecordIndex) :
    ((s.doWriteMap q).1.record r).state = (s.record r).state := by
  have applied (writes : List (StreamId × Word16)) : ((s.applyMap writes).record r).state = (s.record r).state := by
    induction writes generalizing s with
    | nil => rfl
    | cons write writes ih =>
      unfold State.applyMap
      split
      · rw [ih, State.rebind_record]
      · exact ih s
  unfold State.doWriteMap
  dsimp only
  split
  · rfl
  · exact applied _

theorem State.applyConfigs_unused (s : State) (writes : List (RecordIndex × Option RecordConfig)) (r : RecordIndex)
    (unused : ((s.applyConfigs writes).record r).state = .unused) : (s.record r).state = .unused := by
  induction writes generalizing s with
  | nil => exact unused
  | cons write writes ih =>
    obtain ⟨r', _ | c⟩ := write
    · exact ih s unused
    · have before := ih (s.setRecord r' ((s.record r').configure c)) unused
      rw [State.record_setRecord] at before
      split at before
      next same =>
        rw [Record.configure_eq] at before
        split at before
        · cases before
        next used => exact absurd before used
      · exact before

theorem State.doWriteConfig_unused (s : State) (q : Request) (r : RecordIndex)
    (unused : ((s.doWriteConfig q).1.record r).state = .unused) : (s.record r).state = .unused := by
  unfold State.doWriteConfig at unused
  dsimp only at unused
  split at unused
  · exact unused
  · exact s.applyConfigs_unused _ r unused

/-! ### Every command -/

theorem planLaw_reset : PlanLaw State.reset := by
  have sound : State.reset.banks.active.sound ∧ State.reset.banks.shadow.sound := ⟨⟨.inl rfl, rfl⟩, .inl rfl, rfl⟩
  exact (planLaw_iff _).mpr ⟨sound.1, sound.2, ⟨fun k r _ below => absurd below (Nat.not_lt_zero k), nofun⟩, trivial⟩

theorem PlanLaw.restart {s : State} (straps : Address) (why : StartReason) : PlanLaw (s.restart straps why) := by
  rw [State.restart_eq]
  exact planLaw_reset

theorem keeps_planLaw : Keeps PlanLaw where
  tick law _ := law
  pin law := law
  restart straps why _ := PlanLaw.restart straps why
  holdPin law := by rw [State.holdPin_changes]; exact law
  link side _ law := by cases side <;> exact law
  count _ law := law
  event _ _ _ law := by rw [State.offerEvent_changes]; exact law
  through _ law _ := law
  takeData {s} c law := by
    refine law.of_stands ?_ ?_ (State.StandsAs.takeData s c) <;> rw [State.takeData_changes]
  takeSync _ law := by rw [State.takeSync_changes]; exact law
  pass _ _ law := by rw [State.applyPass_changes]; exact law
  execute {s broadcast a q} straps law passed := by
    refine State.execute_cases (motive := PlanLaw) s a q straps (same := law) ?map ?config
      (shadow := fun write => law.writeShadow (State.first_ne_zero_of_passed (write ▸ passed))) (length := law.writeLength q)
      ?line (settings := law.doWriteSettings q) (record := law.executeRecord) (copy := law.askCopy) (swap := law.askSwap)
      (cancel := law.cancelSwap) ?lock (ports := law) (soft := law.softReset) (full := PlanLaw.restart straps .full)
      fun _ => ?lease
    case map =>
      refine law.of_used (t := (s.doWriteMap q).1) ?_ ?_ fun r unused => (s.doWriteMap_state q r).symm.trans unused
        <;> rw [State.doWriteMap_changes]
    case config =>
      refine law.of_used (t := (s.doWriteConfig q).1) ?_ ?_ (s.doWriteConfig_unused q) <;> rw [State.doWriteConfig_changes]
    case line => rw [State.doWriteLine_changes]; exact law
    case lock => rw [State.restartLock_changes]; exact law
    case lease => rw [State.executeLease_changes]; exact law
  push _ law _ := law
  cache _ law := law
  copyStep law copying more := law.copyStep copying more
  finishCopy law copying _ := law.finishCopy copying
  unitStep law _ _ _ := law
  expireLease law _ := by rw [State.expireLease_changes]; exact law
  boundary {s} law := by
    have banks := law.atBoundary s.timer.nextCycle
    refine banks.of_stands ?_ ?_ (State.StandsAs.boundary s) <;> rw [State.boundary_changes] <;> rfl
  beginSlot {s k} law _ := by
    refine law.of_stands ?_ ?_ (State.StandsAs.beginSlot s k) <;> rw [State.beginSlot_changes]
  beginGuard _ law := by rw [State.beginGuard_changes]; exact law
  cellTime law _ := by rw [State.fillCellTime_changes]; exact law
  openWindow law _ := law
  endWindow law _ := by rw [State.endWindow_changes]; exact law

/-- Settles O58: every write is judged against the plans, and what could leave a named record UNUSED is refused. -/
theorem plansNameRecordsInUse : Obligations.PlansNameRecordsInUse := fun _ _ law run =>
  keeps_planLaw.step (fun _ _ law => law) law run

end Sys2Proof.Machine
end
section
/-! A DRIVEN or staged line keeps a source that runs or pauses, and a running engine, under every step (R101, R106, R108, R109). -/

namespace Sys2Proof.Machine

/-! ### One line -/

/-- A record in a state that lets its lines be DRIVEN (R101). -/
def RecordState.Drives (x : RecordState) : Prop := x = .running ∨ x = .paused

/-- The law of one line under an engine state and the records' states (R101, R103, R106). -/
def Line.Lawful (l : Line) (engine : EngineState) (states : RecordIndex → RecordState) : Prop :=
  l.bitIndex ≤ 319 ∧ (l.source = none ↔ l.state = .disabled) ∧ (l.state = .disabled → l.staged = none) ∧
    ∀ r, l.source = some r → states r ≠ .unused ∧
      (l.state = .driven ∨ l.staged.isSome → engine = .running ∧ (states r).Drives)

/-- The states of the records. -/
def State.states (s : State) (r : RecordIndex) : RecordState := (s.record r).state

theorem lineLaw_iff (s : State) : LineLaw s ↔ ∀ i, (s.line i).Lawful s.engine s.states := Iff.rfl

namespace Line.Lawful

variable {l : Line} {engine engine' : EngineState} {states states' : RecordIndex → RecordState}
  (law : l.Lawful engine states)
include law

/-- States that stay in use, and that still drive where they did, keep the law of a line. -/
theorem mono (runs : engine = .running → engine' = .running) (used : ∀ r, states r ≠ .unused → states' r ≠ .unused)
    (drives : ∀ r, (states r).Drives → (states' r).Drives) : l.Lawful engine' states' := by
  obtain ⟨bit, source, staged, own⟩ := law
  refine ⟨bit, source, staged, fun r named => ?_⟩
  obtain ⟨inUse, driven⟩ := own r named
  exact ⟨used r inUse, fun active => ⟨runs (driven active).1, drives r (driven active).2⟩⟩

/-- A SAFE line needs only a source in use (R109). -/
theorem safe (used : ∀ r, states r ≠ .unused → states' r ≠ .unused) (named : l.source ≠ none) :
    Line.Lawful { l with staged := none, state := .safe } engine' states' := by
  obtain ⟨bit, -, -, own⟩ := law
  refine ⟨bit, iff_of_false named nofun, nofun, fun r source => ⟨used r (own r source).1, ?_⟩⟩
  rintro (driven | staged)
  · cases driven
  · cases staged

theorem madeSafe (used : ∀ r, states r ≠ .unused → states' r ≠ .unused) : l.madeSafe.Lawful engine' states' := by
  unfold Line.madeSafe
  split
  next named => exact law.safe used (Option.isSome_iff_ne_none.mp named)
  next unnamed =>
    obtain ⟨bit, source, staged, -⟩ := law
    refine ⟨bit, source, staged, fun r named => absurd ?_ unnamed⟩
    rw [named]; rfl

/-- The lines of one record go SAFE; the others keep the law while their records do (R108). -/
theorem safeFor (r : RecordIndex) (used : ∀ r', states r' ≠ .unused → states' r' ≠ .unused)
    (others : ∀ r', r' ≠ r → states' r' = states r') : (l.safeFor r).Lawful engine states' := by
  unfold Line.safeFor
  split
  next named => exact law.safe used (by rw [named]; nofun)
  next other =>
    obtain ⟨bit, source, staged, own⟩ := law
    refine ⟨bit, source, staged, fun r' named => ?_⟩
    have apart : r' ≠ r := fun same => other (same ▸ named)
    rw [others r' apart]
    exact own r' named

/-- The lines of a released record lose their source (R27, R108). -/
theorem disableFor (r : RecordIndex) (others : ∀ r', r' ≠ r → states' r' = states r') : (l.disableFor r).Lawful engine states' := by
  obtain ⟨bit, source, staged, own⟩ := law
  unfold Line.disableFor
  split
  · exact ⟨bit, iff_of_true rfl rfl, fun _ => rfl, nofun⟩
  next other =>
    refine ⟨bit, source, staged, fun r' named => ?_⟩
    have apart : r' ≠ r := fun same => other (same ▸ named)
    rw [others r' apart]
    exact own r' named

/-- A line of a RUNNING record is staged while the engine runs (R105). -/
theorem stageFor (r : RecordIndex) (p : Payload) (runs : engine = .running) (running : states r = .running) :
    (l.stageFor r p).Lawful engine states := by
  unfold Line.stageFor
  split
  next named =>
    obtain ⟨bit, source, -, own⟩ := law
    refine ⟨bit, source, fun disabled => ?_, fun r' named' => ⟨(own r' named').1, fun _ => ⟨runs, ?_⟩⟩⟩
    · have unnamed := source.mpr disabled
      rw [named] at unnamed
      cases unnamed
    · obtain rfl : r = r' := Option.some.inj (named.symm.trans named')
      exact .inl running
  · exact law

/-- A staged value applied leaves the line DRIVEN by the record that staged it (R106). -/
theorem applies : l.applies.Lawful engine states := by
  obtain ⟨bit, source, staged, own⟩ := law
  unfold Line.applies
  split
  next v held =>
    have able : l.state ≠ .disabled := fun disabled => by
      rw [staged disabled] at held
      cases held
    exact ⟨bit, iff_of_false (fun none => able (source.mp none)) nofun, nofun,
      fun r named => ⟨(own r named).1, fun _ => (own r named).2 (.inr (by rw [held]; rfl))⟩⟩
  · exact ⟨bit, source, staged, own⟩

end Line.Lawful

/-- A written line is SAFE or DISABLED, its bit index within the payload (R103). -/
theorem LineConfig.line_lawful {d : DataArea} {i : Nat} {c : LineConfig} {states : RecordIndex → RecordState}
    (read : LineConfig.ofData d i = some c) (used : ∀ r, c.source = some r → states r ≠ .unused) (engine : EngineState) :
    c.line.Lawful engine states := by
  have bit : c.bitIndex ≤ 319 := by
    unfold LineConfig.ofData at read
    dsimp only at read
    split at read
    · split_ifs at read with fits
      · obtain rfl := Option.some.inj read; exact fits
      · obtain rfl := Option.some.inj read; exact fits
    · cases read
  unfold LineConfig.line
  cases source : c.source with
  | none => exact ⟨bit, iff_of_true rfl rfl, fun _ => rfl, nofun⟩
  | some r =>
    refine ⟨bit, iff_of_false nofun (by simp), fun _ => rfl, fun r' named => ⟨used r' (source.trans named), ?_⟩⟩
    simp

/-! ### All lines -/

namespace LineLaw

variable {s : State} (law : LineLaw s)
include law

/-- One function over every line. -/
theorem of_mapAll {t : State} {f : Line → Line} (lines : t.lines = mapAll f s.lines)
    (keeps : ∀ l : Line, l.Lawful s.engine s.states → (f l).Lawful t.engine t.states) : LineLaw t := by
  refine (lineLaw_iff t).mpr fun i => ?_
  have value : t.line i = f (s.line i) := by simp [State.line, lines]
  rw [value]
  exact keeps _ (law i)

/-- The lines as they were. -/
theorem of_lines {t : State} (lines : t.lines = s.lines) (runs : s.engine = .running → t.engine = .running)
    (used : ∀ r, s.states r ≠ .unused → t.states r ≠ .unused) (drives : ∀ r, (s.states r).Drives → (t.states r).Drives) :
    LineLaw t := by
  refine (lineLaw_iff t).mpr fun i => ?_
  have value : t.line i = s.line i := by simp [State.line, lines]
  rw [value]
  exact Line.Lawful.mono (law i) runs used drives

/-- The lines as they were, and every record in its state. -/
theorem of_states {t : State} (lines : t.lines = s.lines) (engine : t.engine = s.engine) (states : ∀ r, t.states r = s.states r) :
    LineLaw t :=
  law.of_lines lines (fun runs => engine.trans runs) (fun r used => (states r).symm ▸ used)
    fun r drives => (states r).symm ▸ drives

theorem halts : LineLaw s.halts := by
  unfold State.halts
  split
  · exact law.of_mapAll rfl fun l lawful => lawful.madeSafe fun _ used => used
  · exact law

end LineLaw

/-! ### The lock's happenings reach the lines only through a halt (R109, R128) -/

/-- The engine and the lines are as they were, or as a halt leaves them. -/
def State.StandsOrHalts (s t : State) : Prop :=
  (t.engine = s.engine ∧ t.lines = s.lines) ∨ (t.engine = s.halts.engine ∧ t.lines = s.halts.lines)

theorem State.StandsOrHalts.unlocks {s t : State} (engine : t.engine = s.engine) (lines : t.lines = s.lines) (why : Word16) :
    s.StandsOrHalts (t.unlocks why) := by
  refine .inr ?_
  unfold State.unlocks State.halts
  rw [State.offerEvent_engine, State.offerEvent_lines]
  dsimp only
  rw [engine, lines]
  split <;> exact ⟨rfl, rfl⟩

theorem State.seeds_standsOrHalts (s : State) (n : Word16) : s.StandsOrHalts (s.seeds n) := by
  refine .inr ?_
  unfold State.seeds State.halts
  dsimp only
  rw [State.offerEvent_engine, State.offerEvent_lines]
  split <;> exact ⟨rfl, rfl⟩

theorem State.restartLock_standsOrHalts {s t : State} (engine : t.engine = s.engine) (lines : t.lines = s.lines) :
    s.StandsOrHalts t.restartLock := by
  unfold State.restartLock
  split
  · rw [State.loseLock_eq]; exact .unlocks engine lines _
  · unfold State.reportLock
    rw [State.offerEvent_changes]
    exact .inl ⟨engine, lines⟩

theorem State.takeSync_standsOrHalts (s : State) (n : Word16) : s.StandsOrHalts (s.takeSync n) := by
  have measured (w : Window) : (s.measured w n).engine = s.engine ∧ (s.measured w n).lines = s.lines := by
    rw [State.measured_changes]; exact ⟨rfl, rfl⟩
  refine State.takeSync_cases (motive := s.StandsOrHalts) (fun _ => .inl ⟨rfl, rfl⟩) (fun _ _ => s.seeds_standsOrHalts n)
    (fun w _ _ _ => ?_) (fun w _ _ => ?_) fun w _ _ => ?_
  · rw [State.measureAcquiring_eq]
    split_ifs
    · rw [State.offerEvent_changes, State.trims_frame]; exact .inl ⟨rfl, rfl⟩
    · rw [State.trims_frame]; exact .inl ⟨rfl, rfl⟩
    · exact s.seeds_standsOrHalts n
  · rw [State.measureTracking_eq]
    split_ifs
    · exact .inl (measured w)
    · exact .unlocks (measured w).1 (measured w).2 _
    · exact .inl (measured w)
  · rw [State.measureHoldover_eq]
    split_ifs
    · rw [State.offerEvent_changes]; exact .inl (measured w)
    · exact .unlocks (measured w).1 (measured w).2 _
    · exact .unlocks (measured w).1 (measured w).2 _
    · exact .inl (measured w)

theorem State.endWindow_standsOrHalts (s : State) (w : Window) : s.StandsOrHalts (s.endWindow w) := by
  have missed {t : State} (engine : t.engine = s.engine) (lines : t.lines = s.lines) : s.StandsOrHalts (t.missWindow w) := by
    unfold State.missWindow
    simp only [State.loseLock_eq]
    split
    · exact .unlocks engine lines _
    · split
      · unfold State.reportLock
        rw [State.offerEvent_changes]
        exact .inl ⟨engine, lines⟩
      · exact .unlocks engine lines _
    · split
      · exact .unlocks engine lines _
      · exact .inl ⟨engine, lines⟩
    · exact .inl ⟨engine, lines⟩
    · exact .inl ⟨engine, lines⟩
  unfold State.endWindow
  split
  · exact .inl ⟨rfl, rfl⟩
  · exact missed (t := s.handTrim w 0) rfl rfl

theorem State.doWriteSettings_standsOrHalts (s : State) (q : Request) : s.StandsOrHalts (s.doWriteSettings q).1 := by
  unfold State.doWriteSettings
  split
  · exact .inl ⟨rfl, rfl⟩
  · split
    · exact .inl ⟨rfl, rfl⟩
    · dsimp only
      split
      · exact .inl ⟨rfl, rfl⟩
      · exact State.restartLock_standsOrHalts rfl rfl

/-! ### Cells, slots and boundaries -/

namespace State

theorem states_of_records {s t : State} (records : t.records = s.records) (r : RecordIndex) : t.states r = s.states r :=
  congrArg Record.state (record_congr records r)

theorem states_setRecord (s : State) (r r' : RecordIndex) (x : Record) :
    (s.setRecord r x).states r' = if r' = r then x.state else s.states r' := by
  unfold states
  rw [record_setRecord]
  split <;> rfl

theorem states_setRecord_of_same {s : State} {r : RecordIndex} {x : Record} (state : x.state = s.states r) (r' : RecordIndex) :
    (s.setRecord r x).states r' = s.states r' := by
  rw [states_setRecord]
  split
  next same => rw [state, same]
  · rfl

/-- Admission leaves every record in its state (R42). -/
theorem takeData_states (s : State) (c : Cell) (r' : RecordIndex) : (s.takeData c).states r' = s.states r' := by
  have refused (r : RecordIndex) : (s.refuseCell r).states r' = s.states r' := by
    refine states_setRecord_of_same ?_ r'
    rfl
  have replaced (r : RecordIndex) : (s.replaceHead r c).states r' = s.states r' := by
    refine states_setRecord_of_same ?_ r'
    rfl
  have appended (r : RecordIndex) : (s.appendCell r c).states r' = s.states r' := by
    refine states_setRecord_of_same (s := { s with free := s.free - 1 }) ?_ r'
    rfl
  have placed (r : RecordIndex) : (s.placeCell r c).states r' = s.states r' := by
    unfold placeCell
    dsimp only
    split
    · split
      · exact appended r
      · split
        · exact replaced r
        · rw [poolExhausted_changes]
          exact refused r
    · split
      · exact refused r
      · exact replaced r
  unfold takeData
  split
  · unfold offerPass
    rw [applyPass_changes]
    exact states_of_records rfl r'
  · rfl
  next r _ =>
    unfold offerRecord
    cases (s.record r).state with
    | filling | starting | running | paused => exact placed r
    | idle | faulted => exact refused r
    | unused => rfl

end State

namespace LineLaw

variable {s : State} (law : LineLaw s)
include law

theorem of_standsOrHalts {t : State} (stands : s.StandsOrHalts t) (records : t.records = s.records) : LineLaw t := by
  have states := State.states_of_records records
  rcases stands with ⟨engine, lines⟩ | ⟨engine, lines⟩
  · exact law.of_states lines engine states
  · have halted : s.halts.records = s.records := by rw [State.halts_changes]
    exact law.halts.of_states lines engine fun r => (states r).trans (State.states_of_records halted r).symm

/-- A record takes another state that drives where the one before did (R23, R25). -/
theorem restate {r : RecordIndex} {x : Record} (used : x.state ≠ .unused) (drives : (s.states r).Drives → x.state.Drives) :
    LineLaw (s.setRecord r x) := by
  refine law.of_lines rfl id (fun r' was => ?_) fun r' was => ?_
  · rw [State.states_setRecord]; split
    · exact used
    · exact was
  · rw [State.states_setRecord]; split
    next same => exact drives (same ▸ was)
    · exact was

/-- A record takes a state in use with its lines gone SAFE (R24, R26, R31, R108). -/
theorem restateSafe {r : RecordIndex} {x : Record} (used : x.state ≠ .unused) :
    LineLaw ((s.setRecord r x).eachLine (Line.safeFor r)) := by
  refine law.of_mapAll (t := (s.setRecord r x).eachLine (Line.safeFor r)) rfl fun l lawful =>
    lawful.safeFor r (fun r' was => ?_) fun r' other => ?_
  · change (s.setRecord r x).states r' ≠ _
    rw [State.states_setRecord]; split
    · exact used
    · exact was
  · exact (State.states_setRecord s r r' x).trans (if_neg other)

/-- A queue flushed leaves every record in its state (R49). -/
theorem flushQueue (r : RecordIndex) : LineLaw (s.flushQueue r) :=
  law.of_states rfl rfl (State.states_setRecord_of_same (s := { s with free := _ }) rfl)

omit law in
theorem fillKeeps : State.FillKeeps LineLaw where
  sends _ _ _ law := law
  record law state _ := law.of_states rfl rfl (State.states_setRecord_of_same state)
  stage {s r} p law engine running :=
    law.of_mapAll (t := s.stage r p) rfl fun l lawful => lawful.stageFor r p engine running
  fault {s r} law _ := by
    unfold State.faultRecord
    dsimp only
    rw [State.offerEvent_changes]
    exact (law.flushQueue r).restateSafe nofun

/-- The end of a slot applies what is staged (R106). -/
theorem endSlot (t : Nat) : LineLaw (s.reach t).endSlot := by
  rw [State.endSlot_eq]
  exact law.of_mapAll rfl fun l lawful => lawful.applies

theorem beginSlot (k : Nat) : LineLaw (s.beginSlot k) := by
  have ended : LineLaw ((s.reach (s.timer.slotTick k)).endSlot.atPosition (.slot k)) :=
    (law.endSlot _).of_states rfl rfl fun _ => rfl
  exact fillKeeps.fillSlot ended k

theorem beginGuard (t : Nat) : LineLaw (s.beginGuard t) := by
  rw [State.beginGuard_changes]
  exact law.of_mapAll rfl fun l lawful => lawful.applies

theorem decideEngine : LineLaw s.decideEngine := by
  unfold State.decideEngine
  split
  · exact law.of_lines rfl (fun _ => rfl) (fun _ used => used) fun _ drives => drives
  · rw [State.haltEngine_eq]; exact law.halts

/-- A promoted record begins to drive, and stops nothing (R30). -/
theorem promote : LineLaw s.promote := by
  unfold State.promote
  split
  · exact law
  · rw [State.offerEach_changes]
    have state (r : RecordIndex) : ({ s with records := mapAll Record.promote s.records } : State).states r =
        if s.states r = .starting then .running else s.states r := by
      simp only [State.states, State.record, getElem_mapAll, Record.promote]
      split_ifs with starting <;> simp [starting]
    have lawful : LineLaw { s with records := mapAll Record.promote s.records } := by
      refine law.of_lines rfl id (fun r used => ?_) fun r drives => ?_
      · rw [state]; split
        · nofun
        · exact used
      · rw [state]; split
        · exact .inl rfl
        · exact drives
    exact lawful

theorem boundary : LineLaw s.boundary := by
  rw [State.boundary_eq, State.fillSlotZero_changes]
  have turned : LineLaw s.turns := by rw [State.turns_changes]; exact law.of_states rfl rfl fun _ => rfl
  exact turned.decideEngine.promote

/-! ### Requests -/

/-- The written lines name sources in use (R103). -/
theorem doWriteLine (q : Request) : LineLaw (s.doWriteLine q).1 := by
  have applied (writes : List (BitVec 3 × Option LineConfig))
      (lawful : ∀ e ∈ writes, ∀ c, e.2 = some c → c.line.Lawful s.engine s.states) : LineLaw (s.applyLines writes) := by
    induction writes generalizing s with
    | nil => exact law
    | cons write writes ih =>
      obtain ⟨i, _ | c⟩ := write
      · exact ih law fun e he => lawful e (List.mem_cons_of_mem _ he)
      · have written : LineLaw (s.setLine i c.line) := fun i' => by
          rw [State.line_setLine]
          split
          · exact lawful (i, some c) List.mem_cons_self c rfl
          · exact law i'
        exact ih written fun e he => lawful e (List.mem_cons_of_mem _ he)
  unfold State.doWriteLine
  dsimp only
  split
  · exact law
  next passed =>
    refine applied _ fun e he c read => ?_
    have judged := List.find?_eq_none.mp passed e he
    obtain ⟨j, -, rfl⟩ := List.mem_map.mp he
    refine LineConfig.line_lawful read (fun r named unused => judged ?_) _
    have value : LineConfig.ofData q.data (9 * j) = some c := read
    simp only [State.lineRefused, value, named, beq_iff_eq]
    exact unused

theorem doWriteMap (q : Request) : LineLaw (s.doWriteMap q).1 := by
  refine law.of_states ?_ ?_ (s.doWriteMap_state q) <;> rw [State.doWriteMap_changes]

/-- A configuration write allocates UNUSED records and leaves the states of the others (R20). -/
theorem doWriteConfig (q : Request) : LineLaw (s.doWriteConfig q).1 := by
  have applied (writes : List (RecordIndex × Option RecordConfig)) : LineLaw (s.applyConfigs writes) := by
    induction writes generalizing s with
    | nil => exact law
    | cons write writes ih =>
      obtain ⟨r, _ | c⟩ := write
      · exact ih law
      · refine ih (law.restate ?_ fun drives => ?_) <;> rw [Record.configure_eq] <;> split
        · nofun
        next used => exact used
        next unused => rw [State.states, unused] at drives; rcases drives with drives | drives <;> cases drives
        · exact drives
  unfold State.doWriteConfig
  dsimp only
  split
  · exact law
  · exact applied _

theorem releaseRecord (r : RecordIndex) : LineLaw (s.releaseRecord r) := by
  have released (t : State) (stands : t.records = s.records) (lines : t.lines = s.lines) (engine : t.engine = s.engine) :
      LineLaw ((t.setRecord r .unused).eachLine (Line.disableFor r)) := by
    refine law.of_mapAll (t := (t.setRecord r .unused).eachLine (Line.disableFor r)) (congrArg (mapAll (Line.disableFor r)) lines)
      fun l lawful => ?_
    change (l.disableFor r).Lawful t.engine (t.setRecord r .unused).states
    rw [engine]
    refine lawful.disableFor r fun r' other => ?_
    rw [State.states_setRecord, if_neg other, State.states_of_records stands]
  unfold State.releaseRecord
  cases (s.record r).bound <;> exact released _ rfl rfl rfl

theorem executeRecord (c : RecordCommand) (r : RecordIndex) : LineLaw (s.executeRecord c r).1 := by
  cases c with
  | fill =>
    unfold State.executeRecord State.doFill
    dsimp only
    cases state : (s.record r).state with
    | idle | faulted => exact law.restate (by simp) (by simp [State.states, state, RecordState.Drives])
    | filling | unused | starting | running | paused => exact law
  | start =>
    unfold State.executeRecord State.doStart
    dsimp only
    cases state : (s.record r).state with
    | idle | filling | faulted => exact law.restateSafe (by simp)
    | unused | starting | running | paused => exact law
  | pause =>
    unfold State.executeRecord State.doPause
    dsimp only
    cases state : (s.record r).state with
    | running => exact law.restate (by simp) fun _ => .inr rfl
    | idle | filling | faulted | unused | starting | paused => exact law
  | resume =>
    unfold State.executeRecord State.doResume
    dsimp only
    cases state : (s.record r).state with
    | paused => exact law.restate (by simp) fun _ => .inl rfl
    | idle | filling | faulted | unused | starting | running => exact law
  | stop =>
    unfold State.executeRecord State.doStop
    dsimp only
    cases (s.record r).state with
    | filling | starting | running | paused | faulted => exact (law.flushQueue r).restateSafe (by simp)
    | idle | unused => exact law
  | release =>
    unfold State.executeRecord State.doRelease
    dsimp only
    cases (s.record r).state with
    | idle =>
      dsimp only
      split
      · exact law
      · exact law.releaseRecord r
    | unused | filling | starting | running | paused | faulted => exact law
  | clearCounters =>
    unfold State.executeRecord State.doClearCounters
    dsimp only
    cases state : (s.record r).state with
    | unused => exact law
    | idle | filling | starting | running | paused | faulted =>
      refine law.of_states rfl rfl (State.states_setRecord_of_same ?_)
      exact state.symm

theorem restartLock : LineLaw s.restartLock :=
  law.of_standsOrHalts (State.restartLock_standsOrHalts rfl rfl) (by rw [State.restartLock_changes])

/-- A soft reset leaves every line with a source SAFE (R111). -/
theorem softReset : LineLaw s.softReset := by
  have reset : LineLaw { s with
      engine := .halted, lines := mapAll Line.madeSafe s.lines, records := mapAll Record.softReset s.records } := by
    refine law.of_mapAll (f := Line.madeSafe) rfl fun l lawful => lawful.madeSafe fun r used => ?_
    simp only [State.states, State.record, getElem_mapAll, Record.softReset]
    split
    next unused => exact absurd unused used
    · nofun
  unfold State.softReset
  rw [State.haltEngine_eachLine_halt]
  refine restartLock ?_
  exact reset.of_states rfl rfl fun _ => rfl

end LineLaw

theorem lineLaw_reset : LineLaw State.reset := by
  have line (i : BitVec 3) : State.reset.line i = Line.reset := by simp [State.line, State.reset, State.cleared]
  intro i
  rw [line]
  exact ⟨by decide, iff_of_true rfl rfl, fun _ => rfl, nofun⟩

theorem LineLaw.restart {s : State} (straps : Address) (why : StartReason) : LineLaw (s.restart straps why) := by
  rw [State.restart_eq]
  exact lineLaw_reset

theorem keeps_lineLaw : Keeps LineLaw where
  tick law _ := law
  pin law := law
  restart straps why _ := LineLaw.restart straps why
  holdPin {s} law := by
    unfold State.holdPin
    rw [State.haltEngine_eq]
    have ended : LineLaw s.endFlight := by rw [State.endFlight_eq]; exact law
    exact ended.halts
  link side _ law := by cases side <;> exact law
  count _ law := law
  event _ _ _ law := by rw [State.offerEvent_changes]; exact law
  through _ law _ := law
  takeData {s} c law := by
    refine law.of_states ?_ ?_ (s.takeData_states c) <;> rw [State.takeData_changes]
  takeSync {s} n law := law.of_standsOrHalts (s.takeSync_standsOrHalts n) (by rw [State.takeSync_changes])
  pass _ _ law := by rw [State.applyPass_changes]; exact law
  execute {s broadcast a q} straps law _ := by
    refine State.execute_cases (motive := LineLaw) s a q straps (same := law) (map := law.doWriteMap q)
      (config := law.doWriteConfig q) (fun _ => ?shadow) ?length (line := law.doWriteLine q) ?settings
      (record := law.executeRecord) ?copy (fun _ => ?swap) ?cancel (lock := law.restartLock) (ports := law) (soft := law.softReset)
      (full := LineLaw.restart straps .full) fun _ => ?lease
    case shadow => rw [State.writeShadow_changes]; exact law
    case length => rw [State.writeLength_changes]; exact law
    case settings => exact law.of_standsOrHalts (s.doWriteSettings_standsOrHalts q) (by rw [State.doWriteSettings_changes])
    case copy => rw [State.askCopy_changes]; exact law
    case swap => rw [State.askSwap_changes]; exact law
    case cancel => rw [State.cancelSwap_changes]; exact law
    case lease => rw [State.executeLease_changes]; exact law
  push _ law _ := law
  cache _ law := law
  copyStep law _ _ := law
  finishCopy law _ _ := law
  unitStep law _ _ _ := law
  expireLease law _ := by rw [State.expireLease_changes]; exact law
  boundary law := law.boundary
  beginSlot law _ := law.beginSlot _
  beginGuard t law := law.beginGuard t
  cellTime law _ := by rw [State.fillCellTime_changes]; exact law
  openWindow law _ := law
  endWindow {s w} law _ := law.of_standsOrHalts (s.endWindow_standsOrHalts w) (by rw [State.endWindow_changes])

/-- Settles O56: what takes a record out of RUNNING and PAUSED, or halts the engine, first makes the lines SAFE. -/
theorem drivenLinesHaveARunningSource : Obligations.DrivenLinesHaveARunningSource := fun _ _ law run =>
  keeps_lineLaw.step (fun _ _ law => law) law run

end Sys2Proof.Machine
end
section
/-! Steps, resets and the gate's own clock: the queue's front, the reset values, the pin, the scheduled happenings, the links and
the Through FIFO. -/

namespace Sys2Proof.Machine

/-! ### Steps and resets -/

/-- Settles O1. -/
theorem stepTakesTheFrontCommand : Obligations.StepTakesTheFrontCommand :=
  ⟨fun s c rest front => by simp only [step, front], fun s empty => by simp only [step, empty]⟩

theorem reset_record (r : RecordIndex) : State.reset.record r = Record.unused := by
  simp [State.record, State.reset, State.cleared]

theorem reset_line (i : BitVec 3) : State.reset.line i = Line.reset := by simp [State.line, State.reset, State.cleared]

theorem reset_mapEntry (id : StreamId) : State.reset.mapEntry id = .pass := by simp [State.mapEntry, State.reset, State.cleared]

theorem reset_cached (m : Manager) : State.reset.cached m = none := by simp [State.cached, State.reset, State.cleared]

theorem Bank.reset_entry (k : Nat) : Bank.reset.entry k = .quiet := by
  unfold Bank.entry
  split <;> simp [Bank.reset]

/-- Settles O3, item by item along the reset tables. -/
theorem resetLeavesTheSpecsValues : Obligations.ResetLeavesTheSpecsValues := by
  refine ⟨rfl, rfl, rfl, rfl, rfl, rfl, rfl, rfl, rfl, reset_mapEntry, reset_record, rfl, rfl, rfl, rfl,
    fun k _ => ⟨Bank.reset_entry k, Bank.reset_entry k⟩, rfl, rfl, rfl, rfl, reset_line, rfl, rfl, rfl, rfl, rfl, rfl, rfl, rfl,
    rfl, reset_cached, rfl, rfl, rfl, rfl, rfl, rfl⟩

theorem queueLaw_reset : QueueLaw State.reset := QueueLaw.emptied rfl rfl rfl ⟨by decide, by decide, by decide, nofun⟩

/-- Settles O52. -/
theorem lawsHoldAtReset : Obligations.LawsHoldAtReset :=
  ⟨poolLaw_reset, queueLaw_reset, settingsLaw_reset, leaseLaw_reset, lineLaw_reset, bindingLaw_reset, planLaw_reset, lockLaw_reset,
    engineLaw_reset, timerLaw_reset⟩

theorem State.pinLevel_held {s : State} (held : s.pinHeld = true) (i : Fin 8) : s.pinLevel i = .low := by
  simp [State.pinLevel, held]

theorem State.dOutLine_held {s : State} (held : s.pinHeld = true) : s.dOutLine = .fill := by simp [State.dOutLine, held]

/-- Settles O4: the restart, and the outputs that the held pin keeps down. -/
theorem powerOnAndPinReleaseRestart : Obligations.PowerOnAndPinReleaseRestart := by
  intro s dt straps t held
  have restarted : (s.passTime dt).restart straps .powerOn = t := State.restart_eq ..
  refine ⟨?_, congrArg Host.Outcome.next restarted, State.dOutLine_held rfl, rfl, State.pinLevel_held rfl⟩
  change Host.Outcome.next { (s.passTime dt).restart straps .powerOn with pinHeld := true } = _
  rw [restarted]

/-- Settles O5: the pins by the states of their lines, and what the assertion cuts off. -/
theorem resetPinCutsOffTheOutputs : Obligations.ResetPinCutsOffTheOutputs := by
  intro s dt
  refine ⟨fun released i => ?_, _, rfl, ?_, State.dOutLine_held rfl, rfl, State.pinLevel_held rfl⟩
  · simp only [State.pinLevel, released, Bool.false_eq_true, if_false]
    cases state : (s.lines[i.val]'i.isLt).state <;> simp only [Line.pin, Line.shows, state]
  · rw [State.holdPin, State.haltEngine_eq, State.endFlight_eq]
    rfl

/-! ### The held pin and the clock (R11, R136) -/

/-- Settles O6: an outside happening only passes its ticks, and the clock does not run. -/
theorem heldPinStopsTheGate : Obligations.HeldPinStopsTheGate := by
  intro s i held
  have outside (dt : Nat) (f : State → State) : s.outside dt f = { s with now := s.now + dt } := if_pos held
  have clocked (f : State → State) : s.clocked f = s := if_pos held
  cases i with
  | powerOn | resetPinAssert | resetPinRelease => trivial
  | lossTimerExpiry | copyStep | copyCompletion | leaseUnitStep | leaseExpiry | cycleBoundary | slotStart | guardStart
  | cellTimeStart | syncWindowOpen | syncWindowEnd => exact congrArg Host.Outcome.next (clocked _)
  | _ => exact congrArg Host.Outcome.next (outside _ _)

/-- What a happening makes of a state under its schedule: it falls on its tick, or changes nothing (logs 2, 3). -/
def State.FallsDue (s : State) (due : Option Nat) (t : State) : Prop :=
  match due with
  | some T => t.now = max s.now T
  | none => t = s

namespace State.FallsDue

variable {s : State}

theorem lossTimer (side : Side) : s.FallsDue (s.dueTick (.lossTimerExpiry side)) (s.lossTimer side) := by
  unfold State.dueTick State.lossTimer
  dsimp only
  cases (s.link side).lossTick with
  | none => rfl
  | some T => cases side <;> exact State.offerEvent_now ..

theorem copyTick : s.FallsDue (s.dueTick .copyStep) s.copyTick := by
  unfold State.dueTick State.copyTick
  dsimp only
  cases s.banks.condition with
  | free | swapPending => rfl
  | copying takenAt done =>
    dsimp only
    by_cases more : done + 1 < 64
    · rw [if_pos more, if_pos (by exact more)]; rfl
    · rw [if_neg more, if_neg (by exact more)]; rfl

theorem copyEnd : s.FallsDue (s.dueTick .copyCompletion) s.copyEnd := by
  unfold State.dueTick State.copyEnd
  dsimp only
  cases s.banks.condition with
  | free | swapPending => rfl
  | copying takenAt done =>
    dsimp only
    by_cases more : done + 1 < 64
    · rw [if_pos more, if_pos (by exact more)]; rfl
    · rw [if_neg more, if_neg (by exact more)]; exact State.offerEvent_now ..

theorem leaseTick : s.FallsDue (s.dueTick .leaseUnitStep) s.leaseTick := by
  unfold State.dueTick State.leaseTick
  dsimp only
  cases s.lease.state with
  | free => rfl
  | held => cases s.lease.countdown with
    | none => rfl
    | some n => dsimp only; split <;> rfl

theorem leaseEnd : s.FallsDue (s.dueTick .leaseExpiry) s.leaseEnd := by
  unfold State.dueTick State.leaseEnd
  dsimp only
  cases s.lease.state with
  | free => rfl
  | held => cases s.lease.countdown with
    | none => rfl
    | some n =>
      dsimp only
      split
      · rfl
      · rw [State.expireLease_changes]; rfl

theorem boundaryDue : s.FallsDue (s.dueTick .cycleBoundary) s.boundaryDue := by
  unfold State.dueTick State.boundaryDue
  dsimp only
  cases s.timer.position with
  | slot => rfl
  | guard => dsimp only; rw [State.boundary_changes]; rfl

theorem slotDue : s.FallsDue (s.dueTick .slotStart) s.slotDue := by
  unfold State.dueTick State.slotDue
  dsimp only
  cases s.nextSlot with
  | none => rfl
  | some k =>
    dsimp only
    rw [State.beginSlot_changes]
    exact congrArg (max s.now <| s.timer.start + ·) (Nat.mul_comm ..)

theorem guardDue : s.FallsDue (s.dueTick .guardStart) s.guardDue := by
  unfold State.dueTick State.guardDue
  dsimp only
  cases s.guardTick with
  | none => rfl
  | some T => dsimp only; rw [State.beginGuard_changes]; rfl

theorem cellTimeDue : s.FallsDue (s.dueTick .cellTimeStart) s.cellTimeDue := by
  unfold State.dueTick State.cellTimeDue
  dsimp only
  cases s.nextCellTime with
  | none => rfl
  | some k =>
    dsimp only
    rw [State.beginCellTime, State.fillCellTime_changes]
    exact congrArg (max s.now <| s.timer.start + ·) (Nat.mul_comm ..)

theorem windowOpenDue : s.FallsDue (s.dueTick .syncWindowOpen) s.windowOpenDue := by
  unfold State.dueTick State.windowOpenDue
  dsimp only
  cases s.lock.window with
  | none => rfl
  | some w => dsimp only; split <;> rfl

theorem windowEndDue : s.FallsDue (s.dueTick .syncWindowEnd) s.windowEndDue := by
  unfold State.dueTick State.windowEndDue
  dsimp only
  cases s.lock.window with
  | none => rfl
  | some w =>
    dsimp only
    split
    · rw [State.closeWindow, State.endWindow_changes]; rfl
    · rfl

/-- While the pin is not held, a command of the clock runs its happening. -/
theorem clocked (released : s.pinHeld = false) {i : Instr} {f : State → State} (run : exec i s = .next (s.clocked f))
    (falls : s.FallsDue (s.dueTick i) (f s)) :
    (∀ T, s.dueTick i = some T → ∃ t, exec i s = .next t ∧ t.now = max s.now T) ∧
      (s.dueTick i = none → exec i s = .next s) := by
  rw [run, State.clocked_of_released released]
  unfold State.FallsDue at falls
  cases due : s.dueTick i with
  | none => rw [due] at falls; exact ⟨nofun, fun _ => congrArg _ falls⟩
  | some T' => rw [due] at falls; exact ⟨fun T same => ⟨_, rfl, Option.some.inj same ▸ falls⟩, nofun⟩

end State.FallsDue

/-- Settles O7, happening by happening. -/
theorem ownClockFallsOnItsTick : Obligations.OwnClockFallsOnItsTick := by
  intro s i released own
  cases i with
  | lossTimerExpiry side => exact State.FallsDue.clocked released rfl (.lossTimer side)
  | copyStep => exact State.FallsDue.clocked released rfl .copyTick
  | copyCompletion => exact State.FallsDue.clocked released rfl .copyEnd
  | leaseUnitStep => exact State.FallsDue.clocked released rfl .leaseTick
  | leaseExpiry => exact State.FallsDue.clocked released rfl .leaseEnd
  | cycleBoundary => exact State.FallsDue.clocked released rfl .boundaryDue
  | slotStart => exact State.FallsDue.clocked released rfl .slotDue
  | guardStart => exact State.FallsDue.clocked released rfl .guardDue
  | cellTimeStart => exact State.FallsDue.clocked released rfl .cellTimeDue
  | syncWindowOpen => exact State.FallsDue.clocked released rfl .windowOpenDue
  | syncWindowEnd => exact State.FallsDue.clocked released rfl .windowEndDue
  | _ => cases own

/-! ### Arrivals that are only counted, and the Through FIFO (R136 to R140, R148) -/

/-- Settles O13. -/
theorem lossTimerTakesASideDown : Obligations.LossTimerTakesASideDown := by
  intro s last released
  refine ⟨fun up => ?_, fun up => ?_⟩
  · have tick : (s.link .uIn).lossTick = some (last + 8192) := by simp [State.link, Link.lossTick, up, Config.lossTicks]
    change Host.Outcome.next (s.clocked (·.lossTimer .uIn)) = _
    simp only [State.clocked_of_released released, State.lossTimer, tick]
    rfl
  · have tick : (s.link .dIn).lossTick = some (last + 8192) := by simp [State.link, Link.lossTick, up, Config.lossTicks]
    change Host.Outcome.next (s.clocked (·.lossTimer .dIn)) = _
    simp only [State.clocked_of_released released, State.lossTimer, tick]
    rfl

theorem passesCheck_iff (c : Cell) : passesCheck c = true ↔ c.check = checkOf c.header c.payload := beq_iff_eq

/-- An arrival while the pin is not held. -/
theorem exec_cellArrival {s : State} (released : s.pinHeld = false) (dt : Nat) (side : Side) (c : Cell) (straps : Address) :
    exec (.cellArrival dt side c straps) s = .next ((s.passTime dt).receive side c straps) :=
  congrArg Host.Outcome.next (State.outside_of_released released dt _)

theorem State.receive_bad (s : State) (side : Side) {c : Cell} (straps : Address) (bad : c.check ≠ checkOf c.header c.payload) :
    s.receive side c straps = s.count (·.bad side) := by
  have fails : passesCheck c = false := by simpa [passesCheck] using bad
  simp [State.receive, fails]

theorem State.receive_unknown (s : State) (dt : Nat) (side : Side) {c : Cell} (straps : Address)
    (passes : c.check = checkOf c.header c.payload) (kind : kindOf c = 6 ∨ kindOf c = 7) :
    (s.passTime dt).receive side c straps = (s.valid dt side).count (·.unknown side) := by
  simp only [State.receive, (passesCheck_iff c).mpr passes, State.validArrival_eq, kind]
  rfl

/-- A good cell of a known kind is counted and routed (R137). -/
theorem State.receive_good (s : State) (dt : Nat) (side : Side) {c : Cell} (straps : Address)
    (passes : c.check = checkOf c.header c.payload) (kind : ¬(kindOf c = 6 ∨ kindOf c = 7)) :
    (s.passTime dt).receive side c straps = match side with
      | .uIn => (s.heard dt .uIn).routeUIn c straps
      | .dIn => (s.heard dt .dIn).routeDIn c := by
  simp only [State.receive, (passesCheck_iff c).mpr passes, State.goodArrival_eq, kind]
  cases side <;> rfl

/-- Settles O8, by check and kind. -/
theorem unroutedCellsAreOnlyCounted : Obligations.UnroutedCellsAreOnlyCounted := by
  intro s dt side c straps released bad v unknown u d
  have counted : (s.passTime dt).count (·.bad side) = bad := by cases side <;> rfl
  refine ⟨?_, fun fails => ?_, fun passes => ⟨fun kind => ?_, fun kind => ?_, fun kind => ?_, fun kind => ?_⟩⟩
  · rw [← counted]
    exact congrArg Host.Outcome.next (State.outside_of_released released dt _)
  · rw [exec_cellArrival released, State.receive_bad _ _ _ fails, counted]
  · rw [exec_cellArrival released, State.receive_unknown s dt side straps passes kind]
    cases side <;> rfl
  · rw [exec_cellArrival released, State.receive_good s dt side straps passes (by simp [kind])]
    cases side
    · simp [State.routeUIn, kind, kindSync, kindData, kindReq, kindRep, kindEvt]
    · simp [State.routeDIn, kind, kindSync, kindData, kindReq, kindRep, kindEvt]
  · rw [exec_cellArrival released, State.receive_good s dt .uIn straps passes (by rcases kind with kind | kind <;> simp [kind])]
    rcases kind with kind | kind <;> simp [State.routeUIn, kind, kindSync, kindData, kindReq, kindRep, kindEvt] <;> rfl
  · rw [exec_cellArrival released, State.receive_good s dt .dIn straps passes (by rcases kind with kind | kind <;> simp [kind])]
    rcases kind with kind | kind <;> simp [State.routeDIn, kind, kindSync, kindData, kindReq, kindRep, kindEvt] <;> rfl

theorem exec_dInArrival {s : State} (released : s.pinHeld = false) (dt : Nat) (c : Cell) :
    exec (.dInArrival dt c) s = .next ((s.heard dt .dIn).routeDIn c) :=
  congrArg Host.Outcome.next ((State.outside_of_released released dt _).trans (congrArg (State.routeDIn · c) (s.goodArrival_eq dt .dIn)))

/-- Settles O9. -/
theorem dInCellsGoToTheThroughFifo : Obligations.DInCellsGoToTheThroughFifo := by
  intro s dt c released d
  have held : d.through = s.through := State.heard_through ..
  refine ⟨fun kind => ?_, fun kind => ?_⟩
  · have offered : exec (.dInArrival dt c) s = .next (d.offerThrough c) := by
      rw [exec_dInArrival released, State.routeDIn, if_pos (by exact kind)]
    rw [offered, State.offerThrough]
    refine ⟨fun room => ?_, fun full => ?_⟩
    · rw [if_pos (held ▸ room), held]
    · rw [if_neg (held ▸ Nat.not_lt.mpr full)]
      rfl
  · rw [exec_dInArrival released]
    rcases kind with kind | kind <;> simp [State.routeDIn, kind, kindSync, kindData, kindReq, kindRep, kindEvt] <;> rfl

end Sys2Proof.Machine
end
section
/-! The cells that the gate builds, field by field (12.1, 12.2, 12.4), and what a REQ, DATA or SYNC cell gives back. -/

namespace Sys2Proof.Machine

/-! ### Octets and words of a payload -/

/-- A part of a part. -/
theorem extractLsb'_extractLsb' {n : Nat} (x : BitVec n) {a b len len' : Nat} (within : b + len' ≤ len) :
    (x.extractLsb' a len).extractLsb' b len' = x.extractLsb' (a + b) len' := by
  ext i hi
  simp only [← BitVec.getLsbD_eq_getElem, BitVec.getLsbD_extractLsb', hi, show b + i < len by omega, decide_true, Bool.true_and,
    Nat.add_assoc]

theorem wordOf_eq (p : Payload) {i : Nat} (fits : i < 39) : wordOf p i = p.extractLsb' (8 * (38 - i)) 16 := by
  have place : 39 - (i + 1) = 38 - i := by omega
  unfold wordOf octetOf
  rw [place]
  exact BitVec.extractLsb'_append_extractLsb'_eq_extractLsb' (by omega)

theorem dataOctet_eq (d : DataArea) (i : Nat) : dataOctet d i = d.extractLsb' (8 * (31 - i)) 8 := by
  ext j hj
  simp [dataOctet, ← BitVec.getLsbD_eq_getElem, hj]

/-! ### REQ cells (R188) -/

/-- The fields of a request payload: each is found by dropping what stands to its right, then what stands to its left. -/
theorem requestPayload_fields (op : BitVec 4) (code : Octet) (q : Request) :
    let p := requestPayload op code q
    p.extractLsb' 318 2 = q.manager ∧ p.extractLsb' 312 8 = q.manager ++ 0#2 ++ op ∧ p.extractLsb' 312 4 = op ∧
    p.extractLsb' 304 8 = q.tag ∧ p.extractLsb' 288 16 = q.epoch ∧ p.extractLsb' 280 8 = code ∧ p.extractLsb' 264 16 = q.first ∧
    p.extractLsb' 256 8 = q.count ∧ p.extractLsb' 0 256 = q.data := by
  intro p
  simp only [p, requestPayload]
  refine ⟨?_, ?_, ?_, ?_, ?_, ?_, ?_, ?_, ?_⟩
  all_goals
    repeat rw [BitVec.extractLsb'_append_eq_of_le (by decide)]
    repeat rw [BitVec.extractLsb'_append_eq_of_add_le (by decide)]
    exact BitVec.extractLsb'_eq_self

theorem addressedHeader_fields (kind : BitVec 3) (address : Address) :
    (addressedHeader kind address).extractLsb' 29 3 = kind ∧ (addressedHeader kind address).extractLsb' 16 7 = address := by
  unfold addressedHeader
  constructor
  all_goals
    repeat rw [BitVec.extractLsb'_append_eq_of_le (by decide)]
    repeat rw [BitVec.extractLsb'_append_eq_of_add_le (by decide)]
    exact BitVec.extractLsb'_eq_self

theorem kindOf_requestCell (op : BitVec 4) (code : Octet) (q : Request) : kindOf (requestCell op code q) = 3 :=
  (addressedHeader_fields kindReq q.dest).1

theorem operationOf_requestCell (op : BitVec 4) (code : Octet) (q : Request) : operationOf (requestCell op code q) = op :=
  (requestPayload_fields op code q).2.2.1

theorem itemCodeOf_requestCell (op : BitVec 4) (code : Octet) (q : Request) : itemCodeOf (requestCell op code q) = code := by
  obtain ⟨-, -, -, -, -, code_eq, -⟩ := requestPayload_fields op code q
  exact code_eq

theorem requestOf_requestCell (op : BitVec 4) (code : Octet) (q : Request) : requestOf (requestCell op code q) = q := by
  obtain ⟨manager, -, -, tag, epoch, -, first, count, data⟩ := requestPayload_fields op code q
  obtain ⟨-, dest⟩ := addressedHeader_fields kindReq q.dest
  cases q
  exact Request.mk.injEq .. ▸ ⟨dest, manager, tag, epoch, first, count, data⟩

/-- Data octet `i` of a request payload stands at payload octet `8 + i`. -/
theorem requestPayload_data (op : BitVec 4) (code : Octet) (q : Request) {i : Nat} (fits : i < 32) :
    octetOf (requestPayload op code q) (8 + i) = dataOctet q.data i := by
  have place : 39 - (8 + i) = 31 - i := by omega
  rw [dataOctet_eq, octetOf, place, requestPayload, BitVec.extractLsb'_append_eq_of_add_le (by omega)]

/-! ### DATA, SYNC and IDLE cells -/

theorem dataHeader_fields (id : StreamId) (tag : Tag) :
    (dataHeader id tag).extractLsb' 29 3 = kindData ∧ (dataHeader id tag).extractLsb' 16 12 = id ∧
      (dataHeader id tag).extractLsb' 8 6 = tag := by
  unfold dataHeader
  refine ⟨?_, ?_, ?_⟩
  all_goals
    repeat rw [BitVec.extractLsb'_append_eq_of_le (by decide)]
    repeat rw [BitVec.extractLsb'_append_eq_of_add_le (by decide)]
    exact BitVec.extractLsb'_eq_self

theorem syncHeader_fields (n : Word16) :
    (syncHeader n).extractLsb' 29 3 = kindSync ∧ (syncHeader n).extractLsb' 0 16 = n := by
  unfold syncHeader
  constructor
  all_goals
    repeat rw [BitVec.extractLsb'_append_eq_of_le (by decide)]
    repeat rw [BitVec.extractLsb'_append_eq_of_add_le (by decide)]
    exact BitVec.extractLsb'_eq_self

theorem passes_buildCell (header : BitVec 32) (payload : Payload) :
    (buildCell header payload).check = checkOf (buildCell header payload).header (buildCell header payload).payload := by
  simp only [buildCell]

theorem kindOf_idleCell : kindOf idleCell = 0 := by decide

theorem octetOf_zero (i : Nat) : octetOf 0 i = 0 := BitVec.extractLsb'_zero

/-! ### REP cells (R188) -/

theorem replyPayload_fields (r : Reply) :
    let p := replyPayload r
    p.extractLsb' 312 8 = r.manager ++ 0#6 ∧ p.extractLsb' 304 8 = r.tag ∧ p.extractLsb' 296 8 = r.status.code ∧
    p.extractLsb' 288 8 = r.count ∧ p.extractLsb' 272 16 = r.detail ∧ p.extractLsb' 16 256 = r.data ∧ p.extractLsb' 0 16 = 0 := by
  intro p
  simp only [p, replyPayload]
  refine ⟨?_, ?_, ?_, ?_, ?_, ?_, ?_⟩
  all_goals
    repeat rw [BitVec.extractLsb'_append_eq_of_le (by decide)]
    repeat rw [BitVec.extractLsb'_append_eq_of_add_le (by decide)]
    exact BitVec.extractLsb'_eq_self

theorem octetOf_of_word {p : Payload} {i : Nat} {w : Word16} (fits : i < 39) (word : p.extractLsb' (8 * (38 - i)) 16 = w) :
    octetOf p i = w.extractLsb' 8 8 ∧ octetOf p (i + 1) = w.extractLsb' 0 8 := by
  rw [← word, extractLsb'_extractLsb' _ (by decide), extractLsb'_extractLsb' _ (by decide), octetOf, octetOf,
    show 39 - i = 38 - i + 1 by omega, show 39 - (i + 1) = 38 - i by omega]
  exact ⟨rfl, rfl⟩

theorem replyPayload_data (r : Reply) {i : Nat} (fits : i < 32) : octetOf (replyPayload r) (6 + i) = dataOctet r.data i := by
  obtain ⟨-, -, -, -, -, data, -⟩ := replyPayload_fields r
  rw [dataOctet_eq, ← data, extractLsb'_extractLsb' _ (by omega), octetOf, show 8 * (39 - (6 + i)) = 16 + 8 * (31 - i) by omega]

/-! ### EVT cells (R189) -/

/-- Record `j` of an EVT cell, zero past the last entry. -/
def eventRecordAt (es : List EventEntry) (j : Nat) : BitVec 64 := match es[j]? with | some e => eventRecord e | none => 0

theorem eventPayload_fields (lost : Bool) (es : List EventEntry) :
    let p := eventPayload lost es
    p.extractLsb' 312 8 = BitVec.ofBool lost ++ 0#4 ++ BitVec.ofNat 3 es.length ∧ p.extractLsb' 304 8 = 0 ∧
    p.extractLsb' 240 64 = eventRecordAt es 0 ∧ p.extractLsb' 176 64 = eventRecordAt es 1 ∧
    p.extractLsb' 112 64 = eventRecordAt es 2 ∧ p.extractLsb' 48 64 = eventRecordAt es 3 ∧ p.extractLsb' 0 48 = 0 := by
  intro p
  simp only [p, eventPayload]
  refine ⟨?_, ?_, ?_, ?_, ?_, ?_, ?_⟩
  all_goals
    repeat rw [BitVec.extractLsb'_append_eq_of_le (by decide)]
    repeat rw [BitVec.extractLsb'_append_eq_of_add_le (by decide)]
    exact BitVec.extractLsb'_eq_self

/-- Octets `2 + 8 j` to `9 + 8 j` of an EVT payload are those of its record `j`. -/
theorem eventPayload_record (lost : Bool) (es : List EventEntry) {j k : Nat} (few : j < 4) (within : k < 8) :
    octetOf (eventPayload lost es) (2 + k + 8 * j) = (eventRecordAt es j).extractLsb' (8 * (7 - k)) 8 := by
  obtain ⟨-, -, first, second, third, fourth, -⟩ := eventPayload_fields lost es
  have place : 8 * (39 - (2 + k + 8 * j)) = 48 + 64 * (3 - j) + 8 * (7 - k) := by omega
  have record : (eventPayload lost es).extractLsb' (48 + 64 * (3 - j)) 64 = eventRecordAt es j := by
    interval_cases j
    · exact first
    · exact second
    · exact third
    · exact fourth
  rw [octetOf, place, ← record, extractLsb'_extractLsb' _ (by omega)]

theorem eventRecord_fields (e : EventEntry) :
    let r := eventRecord e
    r.extractLsb' 56 8 = e.kind.code ∧
    r.extractLsb' 48 8 = BitVec.ofBool e.object.isSome ++ BitVec.ofBool e.argument.isSome ++ 0#6 ∧
    r.extractLsb' 40 8 = e.object.getD 0 ∧ r.extractLsb' 24 16 = e.argument.getD 0 ∧ r.extractLsb' 8 16 = e.firstCycle ∧
    r.extractLsb' 0 8 = e.repeats := by
  intro r
  simp only [r, eventRecord]
  refine ⟨?_, ?flags, ?_, ?_, ?_, ?_⟩
  case flags =>
    ext i hi
    simp only [← BitVec.getLsbD_eq_getElem, BitVec.getLsbD_extractLsb', BitVec.getLsbD_append]
    interval_cases i <;> rfl
  all_goals
    repeat rw [BitVec.extractLsb'_append_eq_of_le (by decide)]
    repeat rw [BitVec.extractLsb'_append_eq_of_add_le (by decide)]
    exact BitVec.extractLsb'_eq_self

/-- A word of an event record: its two octets, put together. -/
theorem eventPayload_word (lost : Bool) {es : List EventEntry} {j k : Nat} (few : j < 4) (within : k < 7) :
    wordOf (eventPayload lost es) (2 + k + 8 * j) = (eventRecordAt es j).extractLsb' (8 * (6 - k)) 16 := by
  have second := eventPayload_record lost es few (show k + 1 < 8 by omega)
  rw [show 2 + (k + 1) + 8 * j = 2 + k + 8 * j + 1 by omega, show 7 - (k + 1) = 6 - k by omega] at second
  rw [wordOf, eventPayload_record lost es few (show k < 8 by omega), second]
  exact BitVec.extractLsb'_append_extractLsb'_eq_extractLsb' (by omega)

/-- What follows the last record is zero. -/
theorem eventPayload_zero (lost : Bool) {es : List EventEntry} (few : es.length ≤ 4) {i : Nat} (fits : i < 40)
    (past : 2 + 8 * es.length ≤ i) : octetOf (eventPayload lost es) i = 0 := by
  rcases Nat.lt_or_ge i 34 with inside | after
  · have split : i = 2 + (i - 2) % 8 + 8 * ((i - 2) / 8) := by omega
    have empty : eventRecordAt es ((i - 2) / 8) = 0 := by
      rw [eventRecordAt, List.getElem?_eq_none (by omega)]
    rw [split, eventPayload_record lost es (by omega) (by omega), empty]
    exact BitVec.extractLsb'_zero
  · obtain ⟨-, -, -, -, -, -, zeros⟩ := eventPayload_fields lost es
    have part := extractLsb'_extractLsb' (eventPayload lost es) (a := 0) (b := 8 * (39 - i)) (len := 48) (len' := 8) (by omega)
    rw [Nat.zero_add, zeros] at part
    rw [octetOf, ← part]
    exact BitVec.extractLsb'_zero

/-- Settles O11, cell by cell. -/
theorem cellsGiveTheirFieldsBack : Obligations.CellsGiveTheirFieldsBack := by
  refine ⟨fun op code q => ?_, fun id tag p => ?_, fun n => ?_, ⟨passes_buildCell _ _, rfl, kindOf_idleCell, fun i _ => octetOf_zero i⟩, fun node r => ?_,
    fun node lost es few => ?_⟩
  · obtain ⟨-, first, -, tag, epoch, code_eq, index, count, -⟩ := requestPayload_fields op code q
    exact ⟨passes_buildCell _ _, rfl, first, tag, (wordOf_eq _ (by decide)).trans epoch, code_eq, (wordOf_eq _ (by decide)).trans index, count,
      fun i fits => requestPayload_data op code q fits, kindOf_requestCell op code q, operationOf_requestCell op code q,
      itemCodeOf_requestCell op code q, requestOf_requestCell op code q⟩
  · obtain ⟨kind, stream, tag_eq⟩ := dataHeader_fields id tag
    exact ⟨passes_buildCell _ _, rfl, kind, stream, tag_eq, rfl⟩
  · obtain ⟨kind, number⟩ := syncHeader_fields n
    exact ⟨passes_buildCell _ _, rfl, kind, number, rfl⟩
  · obtain ⟨manager, tag, status, count, detail, -, zeros⟩ := replyPayload_fields r
    obtain ⟨zero, zero'⟩ := octetOf_of_word (i := 38) (by decide) zeros
    have code : (octetOf (replyCell node r).payload 2).toNat = codeIn statusNames r.status := by
      refine (congrArg BitVec.toNat status).trans ?_
      cases r.status <;> rfl
    exact ⟨passes_buildCell _ _, rfl, manager, tag, code, count, (wordOf_eq _ (by decide)).trans detail, fun i fits => replyPayload_data r fits,
      zero, zero'⟩
  · obtain ⟨head, second, -⟩ := eventPayload_fields lost es
    refine ⟨passes_buildCell _ _, rfl, head, second, fun j e found => ?_, fun i fits past => eventPayload_zero lost few fits past⟩
    have j4 : j < 4 := (List.getElem?_eq_some_iff.mp found).1.trans_le few
    have record : eventRecordAt es j = eventRecord e := by rw [eventRecordAt, found]
    obtain ⟨kind, flags, object, argument, cycle, repeats⟩ := eventRecord_fields e
    have octet {k : Nat} (within : k < 8) := record ▸ eventPayload_record lost es j4 within
    have word {k : Nat} (within : k < 7) := record ▸ eventPayload_word lost (es := es) j4 within
    refine ⟨?_, (octet (k := 1) (by decide)).trans flags, ?_, ?_, (word (k := 5) (by decide)).trans cycle,
      (octet (k := 7) (by decide)).trans repeats⟩
    · refine (congrArg BitVec.toNat ((octet (k := 0) (by decide)).trans kind)).trans ?_
      cases e.kind <;> rfl
    · refine ((octet (k := 2) (by decide)).trans object).trans ?_
      cases e.object <;> rfl
    · refine ((word (k := 3) (by decide)).trans argument).trans ?_
      cases e.argument <;> rfl

end Sys2Proof.Machine
end
section
/-! Arrivals given as rows of their own are those of their cells (log 5), and DATA cells and requests for others go where the map
and the Pass Queue say (R16, R42 to R46, R51, R52, R139). -/

namespace Sys2Proof.Machine

/-! ### The cells behind the rows -/

theorem State.receive_known (t : State) (side : Side) {c : Cell} (straps : Address) (passes : c.check = checkOf c.header c.payload)
    (kind : ¬(kindOf c = 6 ∨ kindOf c = 7)) :
    t.receive side c straps = match side with
      | .uIn => (t.goodArrival .uIn).routeUIn c straps
      | .dIn => (t.goodArrival .dIn).routeDIn c := by
  simp only [State.receive, (passesCheck_iff c).mpr passes, kind]
  cases side <;> rfl

theorem State.routeUIn_data (t : State) {c : Cell} (straps : Address) (kind : kindOf c = 2) : t.routeUIn c straps = t.takeData c := by
  simp [State.routeUIn, kind, kindSync, kindData]

theorem State.routeUIn_sync (t : State) {c : Cell} (straps : Address) (kind : kindOf c = 1) :
    t.routeUIn c straps = t.takeSync (numberOf c) := by
  simp [State.routeUIn, kind, kindSync]

theorem State.routeUIn_requestCell (t : State) (op : BitVec 4) (code : Octet) (q : Request) (straps : Address) :
    t.routeUIn (requestCell op code q) straps = t.routeRequest (askOf op code) (requestCell op code q) q straps := by
  simp [State.routeUIn, kindOf_requestCell, operationOf_requestCell, itemCodeOf_requestCell, requestOf_requestCell, kindSync, kindData,
    kindReq]

theorem State.receive_requestCell (t : State) (op : BitVec 4) (code : Octet) (q : Request) (straps : Address) :
    t.receive .uIn (requestCell op code q) straps =
      (t.goodArrival .uIn).routeRequest (askOf op code) (requestCell op code q) q straps := by
  have passes : (requestCell op code q).check = checkOf (requestCell op code q).header (requestCell op code q).payload :=
    passes_buildCell ..
  rw [State.receive_known t .uIn straps passes (by rw [kindOf_requestCell]; decide)]
  exact State.routeUIn_requestCell ..

/-- Only RESET_FULL samples the straps (R173). -/
theorem State.routeRequest_straps (t : State) {a : Ask} (other : a ≠ .resetFull) (c : Cell) (q : Request) (straps straps' : Address) :
    t.routeRequest a c q straps = t.routeRequest a c q straps' := by
  have executes (u : State) : u.execute a q straps = u.execute a q straps' := by
    cases a with
    | resetFull => exact absurd rfl other
    | _ => rfl
  simp only [State.routeRequest, State.takeRequest, State.answer, executes]

/-- A request row asks for what its operation and code name, and is the arrival of its cell; the straps of RESET_FULL are those of
its row (log 5). -/
theorem requestRow_spec {i : Instr} {dt : Nat} {op : BitVec 4} {code : Octet} {q : Request} (row : requestRow i = some (dt, op, code, q)) :
    (askOf op code).operation = op ∧ (askOf op code).code = code ∧
      ((∃ sampled, i = .resetFull dt q sampled ∧ askOf op code = .resetFull) ∨
        askOf op code ≠ .resetFull ∧ ∀ s, exec i s = .next (s.requestArrival dt (askOf op code) q s.straps)) := by
  cases i with
  | read dt' cls q' =>
    obtain ⟨rfl, rfl, rfl, rfl⟩ := by simpa [requestRow] using row
    cases cls <;> exact ⟨rfl, rfl, .inr ⟨nofun, fun _ => rfl⟩⟩
  | write dt' cls q' =>
    obtain ⟨rfl, rfl, rfl, rfl⟩ := by simpa [requestRow] using row
    cases cls <;> exact ⟨rfl, rfl, .inr ⟨nofun, fun _ => rfl⟩⟩
  | resetFull dt' q' sampled =>
    obtain ⟨rfl, rfl, rfl, rfl⟩ := by simpa [requestRow] using row
    exact ⟨rfl, rfl, .inl ⟨sampled, rfl, rfl⟩⟩
  | writeMap dt' q' | writeRecordConfig dt' q' | writeShadowSlot dt' q' | writeBankLength dt' q' | writeLine dt' q'
  | writeSettings dt' q' | fill dt' q' | start dt' q' | pause dt' q' | resume dt' q' | stop dt' q' | release dt' q'
  | clearCounters dt' q' | copy dt' q' | swap dt' q' | swapAt dt' q' | swapCancel dt' q' | restartLock dt' q'
  | clearPortCounters dt' q' | resetSoft dt' q' | acquire dt' q' | renew dt' q' | leaseRelease dt' q' | claim dt' q' =>
    obtain ⟨rfl, rfl, rfl, rfl⟩ := by simpa [requestRow] using row
    exact ⟨rfl, rfl, .inr ⟨nofun, fun _ => rfl⟩⟩
  | _ => cases row

/-- A request row is the arrival that its operation and code name, at some straps. -/
theorem exec_requestRow {i : Instr} {dt : Nat} {op : BitVec 4} {code : Octet} {q : Request}
    (row : requestRow i = some (dt, op, code, q)) (s : State) :
    ∃ straps, exec i s = .next (s.requestArrival dt (askOf op code) q straps) := by
  obtain ⟨-, -, ⟨sampled, rfl, full⟩ | ⟨-, run⟩⟩ := requestRow_spec row
  · exact ⟨sampled, by rw [full]; rfl⟩
  · exact ⟨s.straps, run s⟩

/-- Settles O10: what a cell decodes to is the row that built it. -/
theorem arrivalRowsAreCellArrivals : Obligations.ArrivalRowsAreCellArrivals := by
  have agree (s : State) (dt : Nat) {f g : State → State} (same : ∀ t, f t = g t) :
      Host.Outcome.next (φ := Fault) (ρ := Refusal) (s.outside dt f) = .next (s.outside dt g) := by
    rw [funext same]
  intro s dt straps
  refine ⟨fun c passes => ⟨fun kind => ?_, fun kind => ?_, fun kind => ?_⟩, fun i op code q row sampling => ?_⟩
  · exact agree s dt fun t => (t.receive_known .uIn straps passes (by simp [kind])).trans (State.routeUIn_data _ straps kind)
  · exact agree s dt fun t => (t.receive_known .uIn straps passes (by simp [kind])).trans (State.routeUIn_sync _ straps kind)
  · refine agree s dt fun t => t.receive_known .dIn straps passes ?_
    simp only [List.mem_cons, List.not_mem_nil, or_false] at kind
    rcases kind with kind | kind | kind | kind | kind <;> simp [kind]
  · have cell : exec (.cellArrival dt .uIn (requestCell op code q) straps) s = .next (s.outside dt fun t =>
        (t.goodArrival .uIn).routeRequest (askOf op code) (requestCell op code q) q straps) :=
      agree s dt fun t => t.receive_requestCell op code q straps
    obtain ⟨operation, code_eq, ⟨sampled, rfl, full⟩ | ⟨other, run⟩⟩ := requestRow_spec row
    · obtain rfl := sampling sampled rfl
      rw [full] at operation code_eq
      rw [cell, full, ← operation, ← code_eq]
      rfl
    · rw [cell, run, State.requestArrival, operation, code_eq]
      exact agree s dt fun t => State.routeRequest_straps _ other ..

/-! ### DATA cells and requests for others -/

theorem exec_dataArrival {s : State} (released : s.pinHeld = false) (dt : Nat) (c : Cell) :
    exec (.dataArrival dt c) s = .next ((s.heard dt .uIn).takeData c) :=
  congrArg Host.Outcome.next ((State.outside_of_released released dt _).trans (congrArg (State.takeData · c) (s.goodArrival_eq dt .uIn)))

/-- Settles O14, by map entry and by destination. -/
theorem unboundCellsPassOrDrop : Obligations.UnboundCellsPassOrDrop := by
  intro s dt released u
  refine ⟨fun c entry => ?_, fun c entry => ?_, fun i op code q row other alone => ?_⟩
  · rw [exec_dataArrival released, State.takeData, State.heard_mapEntry, entry]
    rfl
  · rw [exec_dataArrival released, State.takeData, State.heard_mapEntry, entry]
    exact congrArg Host.Outcome.next (State.applyPass_eq ..)
  · obtain ⟨straps, run⟩ := exec_requestRow row s
    obtain ⟨operation, code_eq, -⟩ := requestRow_spec row
    rw [run, s.requestArrival_eq dt _ q straps released, if_neg (by exact alone), if_neg other, operation, code_eq]

/-- Settles O15, by the record's state, its limit and the pool. -/
theorem recordAdmission : Obligations.RecordAdmission := by
  intro s dt c r released bound u x refused replaced admits
  have record : u.record r = x := State.heard_record ..
  have free : u.free = s.free := State.heard_free ..
  have refuses : u.refuseCell r = refused := by rw [State.refuseCell, record]; rfl
  have replaces : u.replaceHead r c = replaced := by rw [State.replaceHead, record]; rfl
  have offered : exec (.dataArrival dt c) s = .next (u.offerRecord r c) := by
    rw [exec_dataArrival released, State.takeData, State.heard_mapEntry, bound]
  have placed (serves : admits) : exec (.dataArrival dt c) s = .next (u.placeCell r c) := by
    rw [offered, State.offerRecord, record]
    rcases serves with state | state | state | state <;> rw [state]
  refine ⟨fun rests => ?_, fun serves short some => ?_, fun serves long policy => ?_, fun serves long policy => ?_,
    fun serves short none policy held => ?_, fun serves short none policy => ?_⟩
  · rw [offered, State.offerRecord, record, ← refuses]
    rcases rests with state | state <;> rw [state]
  · rw [placed serves, State.placeCell, record, free]
    simp only [if_pos short, if_pos some, State.appendCell, record, free]
  · rw [placed serves, State.placeCell, record]
    simp only [if_neg (Nat.not_lt.mpr long), policy, refuses]
  · rw [placed serves, State.placeCell, record]
    simp only [if_neg (Nat.not_lt.mpr long), policy, replaces]
  · obtain ⟨head, rest, queue⟩ := List.exists_cons_of_ne_nil held
    rw [placed serves, State.placeCell, record, free, none]
    simp only [Nat.lt_irrefl, if_false, policy, queue, replaces, ite_self]
  · rw [placed serves, State.placeCell, record, free, none, refuses]
    simp only [if_pos short, Nat.lt_irrefl, if_false]
    rcases policy with policy | empty
    · simp only [policy]; rfl
    · simp only [empty]; cases x.config.overflow <;> rfl

end Sys2Proof.Machine
end
section
/-! The entries of the writable classes in a data area: laid out end to end, read back, and refused outside their ranges (12.2,
12.3). -/

namespace Sys2Proof.Machine

/-! ### Octets and words of a data area (R188) -/

theorem dataOctet_or (a b : DataArea) (i : Nat) : dataOctet (a ||| b) i = dataOctet a i ||| dataOctet b i := by
  ext j hj
  simp [dataOctet, ← BitVec.getLsbD_eq_getElem, hj]

theorem dataOctet_placed (o : Octet) {k i : Nat} (hk : k < 32) (hi : i < 32) :
    dataOctet (o.setWidth 256 <<< (8 * (31 - k))) i = if i = k then o else 0 := by
  ext j hj
  simp only [dataOctet, ← BitVec.getLsbD_eq_getElem, BitVec.getLsbD_setWidth, BitVec.getLsbD_ushiftRight,
    BitVec.getLsbD_shiftLeft, hj, decide_true, Bool.true_and]
  rcases Nat.lt_trichotomy i k with before | rfl | after
  · rw [if_neg (by omega), BitVec.getLsbD_of_ge _ (8 * (31 - i) + j - 8 * (31 - k)) (by omega)]
    simp
  · have low : ¬8 * (31 - i) + j < 8 * (31 - i) := by omega
    simp [low, show 8 * (31 - i) + j < 256 by omega, show j < 256 by omega]
  · have low : 8 * (31 - i) + j < 8 * (31 - k) := by omega
    rw [if_neg (by omega)]
    simp [low]

theorem dataOctet_putOctets (d : DataArea) (k : Nat) (os : List Octet) (fits : k + os.length ≤ 32) {i : Nat} (hi : i < 32) :
    dataOctet (putOctets d k os) i = dataOctet d i ||| (if k ≤ i then os[i - k]?.getD 0 else 0) := by
  induction os generalizing d k with
  | nil => simp [putOctets]
  | cons o os ih =>
    rw [List.length_cons] at fits
    rw [putOctets, ih _ _ (by omega), dataOctet_or, dataOctet_placed o (by omega) hi, BitVec.or_assoc]
    congr 1
    rcases Nat.lt_trichotomy i k with before | rfl | after
    · rw [if_neg (by omega), if_neg (by omega), if_neg (by omega)]; rfl
    · rw [if_pos rfl, if_neg (by omega), if_pos le_rfl]; simp
    · obtain ⟨m, rfl⟩ : ∃ m, i = k + 1 + m := ⟨i - (k + 1), by omega⟩
      rw [if_neg (by omega), if_pos (by omega), if_pos (by omega), show k + 1 + m - (k + 1) = m by omega,
        show k + 1 + m - k = m + 1 by omega]
      simp

theorem dataOctet_packData {os : List Octet} (fits : os.length ≤ 32) {i : Nat} (hi : i < 32) :
    dataOctet (packData os) i = os[i]?.getD 0 := by
  have zero : dataOctet 0 i = 0 := by simp [dataOctet]
  rw [packData, dataOctet_putOctets 0 0 os (by omega) hi, zero, if_pos (Nat.zero_le i)]
  simp

theorem dataWord_eq_octets (d : DataArea) {i : Nat} (fits : i < 31) : dataWord d i = dataOctet d i ++ dataOctet d (i + 1) := by
  have word : dataWord d i = d.extractLsb' (8 * (30 - i)) 16 := by
    ext j hj
    simp [dataWord, ← BitVec.getLsbD_eq_getElem, hj]
  rw [word, dataOctet_eq, dataOctet_eq, show 31 - (i + 1) = 30 - i by omega]
  symm
  exact BitVec.extractLsb'_append_extractLsb'_eq_extractLsb' (by omega)

theorem ofNat_append_ofNat (n : Nat) : BitVec.ofNat 8 (n / 256) ++ BitVec.ofNat 8 n = BitVec.ofNat 16 n := by
  apply BitVec.eq_of_toNat_eq
  rw [BitVec.toNat_append, Nat.shiftLeft_eq, ← Nat.mul_comm (2 ^ 8), ← Nat.two_pow_add_eq_or_of_lt (BitVec.isLt _)]
  simp only [BitVec.toNat_ofNat]
  omega

/-! ### Entries end to end (R188) -/

/-- The octets stand in the data area from octet `i` on. -/
def Laid (d : DataArea) (i : Nat) (os : List Octet) : Prop := ∀ k (h : k < os.length), dataOctet d (i + k) = os[k]

theorem getElem?_flatMap {α β : Type} {f : α → List β} {n : Nat} (len : ∀ x, (f x).length = n) {es : List α} {j k : Nat} {e : α}
    (found : es[j]? = some e) (within : k < n) : (es.flatMap f)[n * j + k]? = (f e)[k]? := by
  induction es generalizing j with
  | nil => cases found
  | cons x es ih =>
    rw [List.flatMap_cons]
    cases j with
    | zero =>
      obtain rfl : x = e := Option.some.inj found
      rw [Nat.mul_zero, Nat.zero_add, List.getElem?_append_left (by rw [len]; exact within)]
    | succ j =>
      rw [List.getElem?_append_right (by rw [len, Nat.mul_succ]; omega), len, Nat.mul_succ,
        show n * j + n + k - n = n * j + k by omega]
      exact ih found

theorem laid_flatMap {α : Type} {f : α → List Octet} {n : Nat} (len : ∀ x, (f x).length = n) {es : List α}
    (fits : es.length * n ≤ 32) {j : Nat} {e : α} (found : es[j]? = some e) :
    Laid (packData (es.flatMap f)) (n * j) (f e) := by
  intro k within
  have below : j < es.length := (List.getElem?_eq_some_iff.mp found).1
  have size : (es.flatMap f).length = es.length * n := by simp [List.length_flatMap, len]
  have inside : n * j + k < es.length * n := by
    rw [len] at within
    calc n * j + k < n * j + n := by omega
      _ = n * (j + 1) := (Nat.mul_succ ..).symm
      _ ≤ n * es.length := Nat.mul_le_mul_left n below
      _ = es.length * n := Nat.mul_comm ..
  rw [dataOctet_packData (size.trans_le fits) (by omega), getElem?_flatMap len found (len e ▸ within)]
  simp [within]

theorem laid_packData {os : List Octet} (fits : os.length ≤ 32) : Laid (packData os) 0 os := by
  intro k within
  rw [Nat.zero_add, dataOctet_packData fits (by omega)]
  simp [within]

/-- A field of two octets is read as its number. -/
theorem dataWord_of_laid {d : DataArea} {i n : Nat} (hi : dataOctet d i = BitVec.ofNat 8 (n / 256))
    (lo : dataOctet d (i + 1) = BitVec.ofNat 8 n) (fits : i < 31) : dataWord d i = BitVec.ofNat 16 n := by
  rw [dataWord_eq_octets d fits, hi, lo, ofNat_append_ofNat]

theorem dataWord_wordField {d : DataArea} {i n : Nat} (laid : Laid d i (wordField n)) (fits : i < 31) :
    dataWord d i = BitVec.ofNat 16 n := dataWord_of_laid (laid 0 (by simp [wordField])) (laid 1 (by simp [wordField])) fits

/-! ### MAP, SHADOW_SLOT and BANK_LENGTH -/

theorem toNat_extractLsb'_high (w : Word16) {b c : Nat} (total : b + c = 16) : (w.extractLsb' b c).toNat = w.toNat / 2 ^ b := by
  rw [BitVec.extractLsb'_toNat, Nat.shiftRight_eq_div_pow]
  refine Nat.mod_eq_of_lt (Nat.div_lt_of_lt_mul ?_)
  rw [← Nat.pow_add, total]
  exact w.isLt

/-- A MAP word by its value code (12.2). -/
theorem MapEntry.ofWord_eq (w : Word16) : MapEntry.ofWord w =
    if w.toNat / 16384 = 0 then some .pass else if w.toNat / 16384 = 1 then some .drop
    else if w.toNat / 16384 = 2 then some (.bound (BitVec.ofNat 8 w.toNat)) else none := by
  have code (n : BitVec 2) : w.extractLsb' 14 2 = n ↔ w.toNat / 16384 = n.toNat := by
    rw [← BitVec.toNat_inj, toNat_extractLsb'_high w rfl]
    exact Iff.rfl
  have index : w.setWidth 8 = BitVec.ofNat 8 w.toNat := by rw [← BitVec.toNat_inj]; simp
  unfold MapEntry.ofWord
  simp only [code, index]
  rfl

theorem MapEntry.ofWord_number (e : MapEntry) : MapEntry.ofWord (BitVec.ofNat 16 e.number) = some e := by
  cases e with
  | pass | drop => rfl
  | bound r =>
    have small := r.isLt
    change MapEntry.ofWord (BitVec.ofNat 16 (2 * 16384 + r.toNat)) = _
    rw [MapEntry.ofWord_eq, BitVec.toNat_ofNat, if_neg (by omega), if_neg (by omega), if_pos (by omega)]
    congr 2
    apply BitVec.eq_of_toNat_eq
    rw [BitVec.toNat_ofNat]
    omega

/-- A slot word by its kind code (12.2). -/
theorem SlotEntry.ofWord_eq (w : Word16) : SlotEntry.ofWord w =
    if w.toNat / 256 = 0 then some .quiet else if w.toNat / 256 = 1 then some .openSlot
    else if w.toNat / 256 = 2 then some (.stream (BitVec.ofNat 8 w.toNat)) else none := by
  have code (n : Octet) : w.extractLsb' 8 8 = n ↔ w.toNat / 256 = n.toNat := by
    rw [← BitVec.toNat_inj, toNat_extractLsb'_high w rfl]
    exact Iff.rfl
  have index : w.setWidth 8 = BitVec.ofNat 8 w.toNat := by rw [← BitVec.toNat_inj]; simp
  unfold SlotEntry.ofWord
  simp only [code, index]
  rfl

theorem SlotEntry.ofWord_number (e : SlotEntry) : SlotEntry.ofWord (BitVec.ofNat 16 e.number) = some e := by
  cases e with
  | quiet | openSlot => rfl
  | stream r =>
    have small := r.isLt
    change SlotEntry.ofWord (BitVec.ofNat 16 (2 * 256 + r.toNat)) = _
    rw [SlotEntry.ofWord_eq, BitVec.toNat_ofNat, if_neg (by omega), if_neg (by omega), if_pos (by omega)]
    congr 2
    apply BitVec.eq_of_toNat_eq
    rw [BitVec.toNat_ofNat]
    omega

theorem setWidth_eq_iff (w : Word16) (r : RecordIndex) : w.setWidth 8 = r ↔ w.toNat % 256 = r.toNat := by
  rw [← BitVec.toNat_inj, BitVec.toNat_setWidth]

theorem mapWord_spec (w : Word16) : (MapEntry.ofWord w = none ↔ w.toNat / 16384 = 3) ∧
    (MapEntry.ofWord w = some .pass ↔ w.toNat / 16384 = 0) ∧ (MapEntry.ofWord w = some .drop ↔ w.toNat / 16384 = 1) ∧
    ∀ r : RecordIndex, MapEntry.ofWord w = some (.bound r) ↔ w.toNat / 16384 = 2 ∧ w.toNat % 256 = r.toNat := by
  have small : w.toNat / 16384 < 4 := by have := w.isLt; omega
  rw [MapEntry.ofWord_eq]
  split_ifs with pass drop bound
  · simp [pass]
  · simp [drop]
  · simp [bound, setWidth_eq_iff]
  · exact ⟨iff_of_true rfl (by omega), iff_of_false nofun pass, iff_of_false nofun drop,
      fun r => iff_of_false nofun fun named => bound named.1⟩

theorem slotWord_spec (w : Word16) : (SlotEntry.ofWord w = none ↔ 2 < w.toNat / 256) ∧
    (SlotEntry.ofWord w = some .quiet ↔ w.toNat / 256 = 0) ∧ (SlotEntry.ofWord w = some .openSlot ↔ w.toNat / 256 = 1) ∧
    ∀ r : RecordIndex, SlotEntry.ofWord w = some (.stream r) ↔ w.toNat / 256 = 2 ∧ w.toNat % 256 = r.toNat := by
  rw [SlotEntry.ofWord_eq]
  split_ifs with quiet openSlot stream
  · simp [quiet]
  · simp [openSlot]
  · simp [stream, setWidth_eq_iff]
  · exact ⟨iff_of_true rfl (by omega), iff_of_false nofun quiet, iff_of_false nofun openSlot,
      fun r => iff_of_false nofun fun named => stream named.1⟩

/-! ### Codes (12.3) -/

theorem Delivery.ofCode_eq : ∀ o, Delivery.ofCode o = [Delivery.downstream, .localOnly, .both][o.toNat]? := by decide
theorem OverflowPolicy.ofCode_eq : ∀ o, OverflowPolicy.ofCode o = [OverflowPolicy.dropNew, .dropOldest][o.toNat]? := by decide
theorem MissPolicy.ofCode_eq : ∀ o, MissPolicy.ofCode o = [MissPolicy.idleCell, .repeatLast, .yieldSlot][o.toNat]? := by decide
theorem Polarity.ofCode_eq : ∀ o, Polarity.ofCode o = [Polarity.direct, .inverted][o.toNat]? := by decide
theorem Level.ofCode_eq : ∀ o, Level.ofCode o = [Level.low, .high][o.toNat]? := by decide
theorem CycleSource.ofCode_eq : ∀ o, CycleSource.ofCode o = [CycleSource.loc, .line][o.toNat]? := by decide
theorem markOfCode_eq : ∀ o, markOfCode o = [false, true][o.toNat]? := by decide

theorem Delivery.ofCode_codeIn (x : Delivery) :
    Delivery.ofCode (BitVec.ofNat 8 (codeIn [.downstream, .localOnly, .both] x)) = some x := by cases x <;> rfl
theorem OverflowPolicy.ofCode_codeIn (x : OverflowPolicy) :
    OverflowPolicy.ofCode (BitVec.ofNat 8 (codeIn [.dropNew, .dropOldest] x)) = some x := by cases x <;> rfl
theorem MissPolicy.ofCode_codeIn (x : MissPolicy) :
    MissPolicy.ofCode (BitVec.ofNat 8 (codeIn [.idleCell, .repeatLast, .yieldSlot] x)) = some x := by cases x <;> rfl
theorem Polarity.ofCode_codeIn (x : Polarity) :
    Polarity.ofCode (BitVec.ofNat 8 (codeIn [.direct, .inverted] x)) = some x := by cases x <;> rfl
theorem Level.ofCode_codeIn (x : Level) : Level.ofCode (BitVec.ofNat 8 (codeIn [.low, .high] x)) = some x := by cases x <;> rfl
theorem CycleSource.ofCode_codeIn (x : CycleSource) :
    CycleSource.ofCode (BitVec.ofNat 8 (codeIn [.loc, .line] x)) = some x := by cases x <;> rfl
theorem markOfCode_codeIn (x : Bool) : markOfCode (BitVec.ofNat 8 (codeIn [false, true] x)) = some x := by cases x <;> rfl

/-! ### RECORD_CONFIG (R19, R20) -/

theorem RecordConfig.layout_length (c : RecordConfig) : c.layout.length = 6 := rfl

theorem Line.layout_length (l : Line) : l.layout.length = 9 := rfl

theorem Settings.layout_length (g : Settings) : g.layout.length = 15 := rfl

theorem ofNat_toNat_self {w : Nat} (x : BitVec w) : BitVec.ofNat w x.toNat = x := BitVec.eq_of_toNat_eq (by simp)

theorem RecordConfig.ofData_laid {d : DataArea} {i : Nat} {c : RecordConfig} (laid : Laid d i c.layout) (least : 1 ≤ c.depthLimit)
    (most : c.depthLimit ≤ 32) : RecordConfig.ofData d i = some c := by
  have o0 : dataOctet d i = BitVec.ofNat 8 (codeIn [.downstream, .localOnly, .both] c.delivery) := laid 0 (show 0 < 6 by decide)
  have o1 : dataOctet d (i + 1) = BitVec.ofNat 8 c.depthLimit := laid 1 (show 1 < 6 by decide)
  have o2 : dataOctet d (i + 2) = BitVec.ofNat 8 (codeIn [.dropNew, .dropOldest] c.overflow) := laid 2 (show 2 < 6 by decide)
  have o3 : dataOctet d (i + 3) = BitVec.ofNat 8 (codeIn [.idleCell, .repeatLast, .yieldSlot] c.missPolicy) :=
    laid 3 (show 3 < 6 by decide)
  have o4 : dataOctet d (i + 4) = c.faultThreshold := (laid 4 (show 4 < 6 by decide)).trans (ofNat_toNat_self c.faultThreshold)
  have o5 : dataOctet d (i + 5) = BitVec.ofNat 8 c.retag.toNat := laid 5 (show 5 < 6 by decide)
  have depth : (BitVec.ofNat 8 c.depthLimit).toNat = c.depthLimit := by rw [BitVec.toNat_ofNat]; omega
  have retag : (BitVec.ofNat 8 c.retag.toNat).toNat = c.retag.toNat := by
    have := c.retag.isLt
    rw [BitVec.toNat_ofNat]
    omega
  have retag' : (BitVec.ofNat 8 c.retag.toNat).setWidth 5 = c.retag := by
    apply BitVec.eq_of_toNat_eq
    rw [BitVec.toNat_setWidth, retag]
    exact Nat.mod_eq_of_lt c.retag.isLt
  have within : 1 ≤ c.depthLimit ∧ c.depthLimit ≤ 32 ∧ c.retag.toNat ≤ 31 := ⟨least, most, Nat.le_of_lt_succ c.retag.isLt⟩
  simp only [RecordConfig.ofData, o0, o1, o2, o3, o4, o5, Delivery.ofCode_codeIn, OverflowPolicy.ofCode_codeIn,
    MissPolicy.ofCode_codeIn, depth, retag, retag', if_pos within]

theorem RecordConfig.ofData_spec (d : DataArea) (i : Nat) :
    (RecordConfig.ofData d i = none ↔ 2 < (dataOctet d i).toNat ∨ (dataOctet d (i + 1)).toNat = 0 ∨ 32 < (dataOctet d (i + 1)).toNat ∨
      1 < (dataOctet d (i + 2)).toNat ∨ 2 < (dataOctet d (i + 3)).toNat ∨ 31 < (dataOctet d (i + 5)).toNat) ∧
    ∀ c, RecordConfig.ofData d i = some c →
      [Delivery.downstream, .localOnly, .both][(dataOctet d i).toNat]? = some c.delivery ∧
      c.depthLimit = (dataOctet d (i + 1)).toNat ∧
      [OverflowPolicy.dropNew, .dropOldest][(dataOctet d (i + 2)).toNat]? = some c.overflow ∧
      [MissPolicy.idleCell, .repeatLast, .yieldSlot][(dataOctet d (i + 3)).toNat]? = some c.missPolicy ∧
      c.faultThreshold = dataOctet d (i + 4) ∧ c.retag.toNat = (dataOctet d (i + 5)).toNat := by
  unfold RecordConfig.ofData
  rw [Delivery.ofCode_eq, OverflowPolicy.ofCode_eq, MissPolicy.ofCode_eq]
  split
  next delivery overflow missPolicy named named' named'' =>
    have places := (List.getElem?_eq_some_iff.mp named).1
    have places' := (List.getElem?_eq_some_iff.mp named').1
    have places'' := (List.getElem?_eq_some_iff.mp named'').1
    simp only [List.length_cons, List.length_nil] at places places' places''
    dsimp only
    split
    next ranges =>
      refine ⟨iff_of_false nofun (by omega), fun c read => ?_⟩
      obtain rfl := Option.some.inj read
      refine ⟨named, rfl, named', named'', rfl, ?_⟩
      rw [BitVec.toNat_setWidth]
      omega
    next outside => exact ⟨iff_of_true rfl (by omega), nofun⟩
  next unnamed =>
    refine ⟨iff_of_true rfl ?_, nofun⟩
    by_contra ranges
    push Not at ranges
    obtain ⟨delivery, -, -, overflow, missPolicy, -⟩ := ranges
    exact unnamed _ _ _ (List.getElem?_eq_getElem (Nat.lt_succ_of_le delivery)) (List.getElem?_eq_getElem (Nat.lt_succ_of_le overflow))
      (List.getElem?_eq_getElem (Nat.lt_succ_of_le missPolicy))

/-! ### LINE (R101, R103) -/

/-- The number of the source field: FFFFh for no source (12.2). -/
def Line.sourceNumber (l : Line) : Nat := match l.source with | some r => r.toNat | none => 0xFFFF

theorem LineConfig.ofData_laid {d : DataArea} {i : Nat} {l : Line} (laid : Laid d i l.layout) (fits : i < 29) (bit : l.bitIndex ≤ 319) :
    LineConfig.ofData d i = some { source := l.source, bitIndex := l.bitIndex, polarity := l.polarity, safeLevel := l.safeLevel } := by
  have o0 : dataOctet d i = BitVec.ofNat 8 (l.sourceNumber / 256) := laid 0 (show 0 < 9 by decide)
  have o1 : dataOctet d (i + 1) = BitVec.ofNat 8 l.sourceNumber := laid 1 (show 1 < 9 by decide)
  have o2 : dataOctet d (i + 2) = BitVec.ofNat 8 (l.bitIndex / 256) := laid 2 (show 2 < 9 by decide)
  have o3 : dataOctet d (i + 3) = BitVec.ofNat 8 l.bitIndex := laid 3 (show 3 < 9 by decide)
  have o4 : dataOctet d (i + 4) = BitVec.ofNat 8 (codeIn [.direct, .inverted] l.polarity) := laid 4 (show 4 < 9 by decide)
  have o5 : dataOctet d (i + 5) = BitVec.ofNat 8 (codeIn [.low, .high] l.safeLevel) := laid 5 (show 5 < 9 by decide)
  have bits : (BitVec.ofNat 16 l.bitIndex).toNat = l.bitIndex := by rw [BitVec.toNat_ofNat]; omega
  unfold LineConfig.ofData
  rw [dataWord_of_laid o0 o1 (by omega), dataWord_of_laid o2 o3 (by omega), o4, o5, Polarity.ofCode_codeIn, Level.ofCode_codeIn, bits]
  simp only [if_pos bit]
  unfold Line.sourceNumber
  cases source : l.source with
  | none => rfl
  | some r =>
    have small := r.isLt
    have number : (BitVec.ofNat 16 r.toNat).toNat = r.toNat := by rw [BitVec.toNat_ofNat]; omega
    have index : (BitVec.ofNat 16 r.toNat).setWidth 8 = r := by rw [setWidth_eq_iff, number]; omega
    have named : BitVec.ofNat 16 r.toNat ≠ 0xFFFF := fun same => by
      have := congrArg BitVec.toNat same
      rw [number] at this
      simp at this
      omega
    dsimp only
    rw [if_neg named, number, if_pos (by omega), index]

theorem LineConfig.ofData_spec (d : DataArea) (i : Nat) :
    (LineConfig.ofData d i = none ↔ (255 < (dataWord d i).toNat ∧ (dataWord d i).toNat ≠ 0xFFFF) ∨ 319 < (dataWord d (i + 2)).toNat ∨
      1 < (dataOctet d (i + 4)).toNat ∨ 1 < (dataOctet d (i + 5)).toNat) ∧
    ∀ c, LineConfig.ofData d i = some c →
      c.source = (if (dataWord d i).toNat = 0xFFFF then none else some (BitVec.ofNat 8 (dataWord d i).toNat)) ∧
      c.bitIndex = (dataWord d (i + 2)).toNat ∧ [Polarity.direct, .inverted][(dataOctet d (i + 4)).toNat]? = some c.polarity ∧
      [Level.low, .high][(dataOctet d (i + 5)).toNat]? = some c.safeLevel := by
  have unsourced : dataWord d i = 0xFFFF ↔ (dataWord d i).toNat = 0xFFFF := BitVec.toNat_inj.symm
  unfold LineConfig.ofData
  rw [Polarity.ofCode_eq, Level.ofCode_eq]
  dsimp only
  split
  next polarity safeLevel named named' =>
    have places := (List.getElem?_eq_some_iff.mp named).1
    have places' := (List.getElem?_eq_some_iff.mp named').1
    simp only [List.length_cons, List.length_nil] at places places'
    simp only [unsourced]
    split_ifs with bit source index
    · refine ⟨iff_of_false nofun (by omega), fun c read => ?_⟩
      obtain rfl := Option.some.inj read
      exact ⟨rfl, rfl, named, named'⟩
    · refine ⟨iff_of_false nofun (by omega), fun c read => ?_⟩
      obtain rfl := Option.some.inj read
      exact ⟨congrArg some (BitVec.eq_of_toNat_eq (by simp)), rfl, named, named'⟩
    · exact ⟨iff_of_true rfl (by omega), nofun⟩
    · exact ⟨iff_of_true rfl (by omega), nofun⟩
    · exact ⟨iff_of_true rfl (by omega), nofun⟩
  next unnamed =>
    refine ⟨iff_of_true rfl ?_, nofun⟩
    by_contra ranges
    push Not at ranges
    obtain ⟨-, -, polarity, safeLevel⟩ := ranges
    exact unnamed _ _ (List.getElem?_eq_getElem (Nat.lt_succ_of_le polarity)) (List.getElem?_eq_getElem (Nat.lt_succ_of_le safeLevel))

/-! ### SETTINGS (R160, R170) -/

/-- The mask with the bit of STARTED_UP, bit 0, taken out (R156). -/
theorem getLsbD_unsuppressed {k : Nat} (hk : k < 14) : (~~~1#14).getLsbD k = decide (k ≠ 0) := by
  interval_cases k <;> decide

theorem Settings.layout_eq (g : Settings) : g.layout =
    [BitVec.ofNat 8 (g.guard / 256), BitVec.ofNat 8 g.guard, BitVec.ofNat 8 (codeIn [.loc, .line] g.source),
      BitVec.ofNat 8 (g.latency / 256), BitVec.ofNat 8 g.latency, BitVec.ofNat 8 (g.window / 256), BitVec.ofNat 8 g.window,
      BitVec.ofNat 8 (g.lockWindow / 256), BitVec.ofNat 8 g.lockWindow, BitVec.ofNat 8 g.holdoverLimit,
      BitVec.ofNat 8 (codeIn [false, true] g.mark), BitVec.ofNat 8 (g.mask.toNat / 256), BitVec.ofNat 8 g.mask.toNat,
      BitVec.ofNat 8 g.leaseTimeout, BitVec.ofNat 8 g.claimGrace] := rfl

theorem Settings.ofData_laid {d : DataArea} {g : Settings} (ranges : g.InRange) (laid : Laid d 0 g.layout) :
    Settings.ofData d = some g := by
  obtain ⟨guard, guard', latency, window, window', lock, lock', holdover, holdover', mask, timeout, timeout', grace, grace'⟩ := ranges
  rw [Settings.layout_eq] at laid
  have w0 : dataWord d 0 = BitVec.ofNat 16 g.guard :=
    dataWord_of_laid (laid 0 (show 0 < 15 by decide)) (laid 1 (show 1 < 15 by decide)) (by decide)
  have o2 : dataOctet d 2 = BitVec.ofNat 8 (codeIn [.loc, .line] g.source) := laid 2 (show 2 < 15 by decide)
  have w3 : dataWord d 3 = BitVec.ofNat 16 g.latency :=
    dataWord_of_laid (laid 3 (show 3 < 15 by decide)) (laid 4 (show 4 < 15 by decide)) (by decide)
  have w5 : dataWord d 5 = BitVec.ofNat 16 g.window :=
    dataWord_of_laid (laid 5 (show 5 < 15 by decide)) (laid 6 (show 6 < 15 by decide)) (by decide)
  have w7 : dataWord d 7 = BitVec.ofNat 16 g.lockWindow :=
    dataWord_of_laid (laid 7 (show 7 < 15 by decide)) (laid 8 (show 8 < 15 by decide)) (by decide)
  have o9 : dataOctet d 9 = BitVec.ofNat 8 g.holdoverLimit := laid 9 (show 9 < 15 by decide)
  have o10 : dataOctet d 10 = BitVec.ofNat 8 (codeIn [false, true] g.mark) := laid 10 (show 10 < 15 by decide)
  have w11 : dataWord d 11 = BitVec.ofNat 16 g.mask.toNat :=
    dataWord_of_laid (laid 11 (show 11 < 15 by decide)) (laid 12 (show 12 < 15 by decide)) (by decide)
  have o13 : dataOctet d 13 = BitVec.ofNat 8 g.leaseTimeout := laid 13 (show 13 < 15 by decide)
  have o14 : dataOctet d 14 = BitVec.ofNat 8 g.claimGrace := laid 14 (show 14 < 15 by decide)
  have word {n : Nat} (small : n ≤ 4095) : (BitVec.ofNat 16 n).toNat = n := by rw [BitVec.toNat_ofNat]; omega
  have octet {n : Nat} (small : n ≤ 255) : (BitVec.ofNat 8 n).toNat = n := by rw [BitVec.toNat_ofNat]; omega
  have suppressed : (BitVec.ofNat 16 g.mask.toNat).setWidth 14 &&& ~~~1#14 = g.mask := by
    ext k hk
    rw [← BitVec.getLsbD_eq_getElem, ← BitVec.getLsbD_eq_getElem, BitVec.getLsbD_and, getLsbD_unsuppressed hk]
    rcases Nat.eq_zero_or_pos k with rfl | above
    · rw [mask]; simp
    · simp [hk, show k ≠ 0 by omega]
  have within : 64 ≤ g.guard ∧ g.guard ≤ 1024 ∧ g.latency ≤ 4095 ∧ 16 ≤ g.window ∧ g.window ≤ 4095 ∧ 4 ≤ g.lockWindow ∧
      g.lockWindow ≤ g.window ∧ 1 ≤ g.holdoverLimit ∧ 1 ≤ g.leaseTimeout ∧ 1 ≤ g.claimGrace :=
    ⟨guard, guard', latency, window, window', lock, lock', holdover, timeout, grace⟩
  simp only [Settings.ofData, w0, o2, w3, w5, w7, o9, o10, w11, o13, o14, CycleSource.ofCode_codeIn, markOfCode_codeIn, suppressed,
    word (show g.guard ≤ 4095 by omega), word latency, word window', word (show g.lockWindow ≤ 4095 by omega), octet holdover',
    octet timeout', octet grace', if_pos within]

theorem Settings.ofData_spec (d : DataArea) :
    let guard := (dataWord d 0).toNat
    let window := (dataWord d 5).toNat
    let lockWindow := (dataWord d 7).toNat
    (Settings.ofData d = none ↔ guard < 64 ∨ 1024 < guard ∨ 1 < (dataOctet d 2).toNat ∨ 4095 < (dataWord d 3).toNat ∨ window < 16 ∨
      4095 < window ∨ lockWindow < 4 ∨ window < lockWindow ∨ (dataOctet d 9).toNat = 0 ∨ 1 < (dataOctet d 10).toNat ∨
      (dataOctet d 13).toNat = 0 ∨ (dataOctet d 14).toNat = 0) ∧
    ∀ g, Settings.ofData d = some g →
      g.guard = guard ∧ [CycleSource.loc, .line][(dataOctet d 2).toNat]? = some g.source ∧ g.latency = (dataWord d 3).toNat ∧
      g.window = window ∧ g.lockWindow = lockWindow ∧ g.holdoverLimit = (dataOctet d 9).toNat ∧
      [false, true][(dataOctet d 10).toNat]? = some g.mark ∧
      (∀ i < 14, g.mask.getLsbD i = (decide (i ≠ 0) && (dataWord d 11).getLsbD i)) ∧
      g.leaseTimeout = (dataOctet d 13).toNat ∧ g.claimGrace = (dataOctet d 14).toNat := by
  intro guard window lockWindow
  unfold Settings.ofData
  rw [CycleSource.ofCode_eq, markOfCode_eq]
  dsimp only
  split
  next source mark named named' =>
    have places := (List.getElem?_eq_some_iff.mp named).1
    have places' := (List.getElem?_eq_some_iff.mp named').1
    simp only [List.length_cons, List.length_nil] at places places'
    split
    next ranges =>
      refine ⟨iff_of_false nofun (by omega), fun g read => ?_⟩
      obtain rfl := Option.some.inj read
      refine ⟨rfl, named, rfl, rfl, rfl, rfl, named', fun i small => ?_, rfl, rfl⟩
      rw [BitVec.getLsbD_and, getLsbD_unsuppressed small, BitVec.getLsbD_setWidth, decide_eq_true small, Bool.true_and, Bool.and_comm]
    next outside => exact ⟨iff_of_true rfl (by omega), nofun⟩
  next unnamed =>
    refine ⟨iff_of_true rfl ?_, nofun⟩
    by_contra ranges
    push Not at ranges
    obtain ⟨-, -, source, -, -, -, -, -, -, mark, -, -⟩ := ranges
    exact unnamed _ _ (List.getElem?_eq_getElem (Nat.lt_succ_of_le source)) (List.getElem?_eq_getElem (Nat.lt_succ_of_le mark))

/-- Settles O12, class by class. -/
theorem entryEncodingsRoundTrip : Obligations.EntryEncodingsRoundTrip := by
  refine ⟨fun os i fits hi => dataOctet_packData fits hi, fun d i fits => dataWord_eq_octets d fits, fun es j e few found => ?_,
    mapWord_spec, fun es j e few found => ?_, slotWord_spec, fun ns j n few found small => ?_,
    fun cs j c few found least most => ?_, RecordConfig.ofData_spec, fun ls j l few found bit => ?_, LineConfig.ofData_spec,
    fun s law => ?_, Settings.ofData_spec⟩
  · have below : j < es.length := (List.getElem?_eq_some_iff.mp found).1
    have laid := laid_flatMap (f := fun x : MapEntry => wordField x.number) (fun _ => rfl) (n := 2) (by omega) found
    rw [dataWord_wordField laid (by omega), MapEntry.ofWord_number]
  · have below : j < es.length := (List.getElem?_eq_some_iff.mp found).1
    have laid := laid_flatMap (f := fun x : SlotEntry => wordField x.number) (fun _ => rfl) (n := 2) (by omega) found
    rw [dataWord_wordField laid (by omega), SlotEntry.ofWord_number]
  · have below : j < ns.length := (List.getElem?_eq_some_iff.mp found).1
    have laid := laid_flatMap (f := wordField) (fun _ => rfl) (n := 2) (by omega) found
    rw [dataWord_wordField laid (by omega), BitVec.toNat_ofNat]
    omega
  · exact RecordConfig.ofData_laid (laid_flatMap RecordConfig.layout_length (by omega) found) least most
  · have below : j < ls.length := (List.getElem?_eq_some_iff.mp found).1
    exact LineConfig.ofData_laid (laid_flatMap Line.layout_length (by omega) found) (by omega) bit
  · exact Settings.ofData_laid law (laid_packData (s.settings.layout_length.trans_le (by decide)))

end Sys2Proof.Machine
end
section
/-! Requests that the agent answers without executing them, and READ (R161 to R165, R168). -/

namespace Sys2Proof.Machine

/-! ### Steps 1 and 2 -/

theorem State.takeRequest_full {u : State} (full : 16 ≤ u.replies.length) (broadcast : Bool) (a : Ask) (q : Request) (straps : Address) :
    u.takeRequest broadcast a q straps = u.dropRequest q :=
  if_pos full

theorem State.takeRequest_repeated {u : State} (room : u.replies.length < 16) {q : Request} {r : Reply}
    (cached : u.cached q.manager = some r) (same : r.tag = q.tag) (broadcast : Bool) (a : Ask) (straps : Address) :
    u.takeRequest broadcast a q straps = u.pushReply r := by
  have again : u.repeated q = some r := by rw [State.repeated, cached]; exact if_pos same
  rw [State.takeRequest, if_neg (by exact Nat.not_le.mpr room), again]

/-- A request row that reaches the gate is carried around what the agent does with it. -/
theorem exec_requestRow_carried {s : State} {i : Instr} {dt : Nat} {op : BitVec 4} {code : Octet} {q : Request}
    (row : requestRow i = some (dt, op, code, q)) (reached : s.reached q) :
    ∃ straps, exec i s = .next (s.carried dt op code q fun u =>
      u.takeRequest (decide (q.dest = 127#7)) (askOf op code) q straps) := by
  obtain ⟨straps, run⟩ := exec_requestRow row s
  obtain ⟨operation, code_eq, -⟩ := requestRow_spec row
  exact ⟨straps, by rw [run, s.requestArrival_carried dt _ q straps reached, operation, code_eq]⟩

/-- Settles O23: the reply room is looked at before everything else. -/
theorem fullReplyQueueDropsRequests : Obligations.FullReplyQueueDropsRequests := by
  intro s i dt op code q row reached full
  obtain ⟨straps, run⟩ := exec_requestRow_carried row reached
  rw [run]
  refine congrArg Host.Outcome.next (State.carried_congr ?_)
  exact State.takeRequest_full (by rw [State.heard_replies]; exact full) ..

/-- Settles O24: the cached tag is looked at before the form of the request. -/
theorem repeatedTagsAreAnsweredFromTheCache : Obligations.RepeatedTagsAreAnsweredFromTheCache := by
  intro s i dt op code q r row reached room cached same
  obtain ⟨straps, run⟩ := exec_requestRow_carried row reached
  rw [run]
  refine congrArg Host.Outcome.next (State.carried_congr ?_)
  rw [State.takeRequest_repeated (by rw [State.heard_replies]; exact room) ((s.heard_cached ..).trans cached) same, State.pushReply,
    State.heard_replies]

/-! ### Steps 3 to 5 on the cell of any operation and code -/

/-- A REQ cell that reaches the gate, whatever its operation and code name. -/
theorem exec_requestCell_carried {s : State} {q : Request} (reached : s.reached q) (dt : Nat) (op : BitVec 4) (code : Octet)
    (straps : Address) :
    exec (.cellArrival dt .uIn (requestCell op code q) straps) s = .next (s.carried dt op code q fun u =>
      u.takeRequest (decide (q.dest = 127#7)) (askOf op code) q straps) := by
  obtain ⟨released, addressed⟩ := reached
  rw [exec_cellArrival released, State.receive_requestCell]
  refine congrArg Host.Outcome.next ?_
  rw [show (s.passTime dt).goodArrival .uIn = s.heard dt .uIn from s.goodArrival_eq dt .uIn, State.routeRequest, State.carried,
    State.heard_nodeAddress, show Config.broadcast = 127#7 from rfl]
  by_cases every : q.dest = 127#7
  · rw [if_pos every, if_pos every, State.applyPass_eq, decide_eq_true every]
  · rw [if_neg every, if_neg every, if_pos (addressed.resolve_right every), decide_eq_false every]

/-- A REQ cell that steps 3 to 5 refuse is answered with the refusal, and nothing else changes (R163, R164, R165). -/
theorem exec_requestCell_refused {s : State} {q : Request} (taken : s.taken q) (dt : Nat) {op : BitVec 4} {code : Octet}
    (straps : Address) {status : Status} {detail : Word16}
    (refused : ∀ u : State, u.lease = s.lease →
      u.refusalOf (decide (q.dest = 127#7)) (askOf op code) q = some (.plain status detail)) :
    exec (.cellArrival dt .uIn (requestCell op code q) straps) s = .next (s.carried dt op code q fun u => u.answered q status detail) := by
  obtain ⟨reached, room, fresh⟩ := taken
  rw [exec_requestCell_carried reached]
  refine congrArg Host.Outcome.next (State.carried_congr ?_)
  rw [State.takeRequest_answered _ _ _ _ _ (by rwa [State.heard_replies]) (by rwa [State.heard_cached]), State.answer,
    refused _ (State.heard_lease ..), State.reply_plain]

theorem exec_write (s : State) (dt : Nat) (cls : ItemClass) (q : Request) :
    exec (.write dt cls q) s = .next (s.requestArrival dt (.write cls) q s.straps) := rfl

/-! ### What operations and codes ask for -/

theorem askOf_badOperation {op : BitVec 4} (names : 3 < op.toNat) (code : Octet) : askOf op code = .badOperation := by
  have differs (o : BitVec 4) (below : o.toNat ≤ 3) : op ≠ o := by rintro rfl; omega
  rw [askOf, if_neg (differs opRead (by decide)), if_neg (differs opWrite (by decide)), if_neg (differs opCommand (by decide)),
    if_neg (differs opLease (by decide))]

theorem askOf_badClass {op : BitVec 4} (reads : op.toNat ≤ 1) {code : Octet} (names : 11 < code.toNat) : askOf op code = .badClass := by
  have unnamed : ItemClass.ofCode code = none := by revert code; decide
  have low : op = 0 ∨ op = 1 := by revert op; decide
  rcases low with rfl | rfl <;> simp [askOf, unnamed, opRead, opWrite]

theorem askOf_badCommand {code : Octet} (names : code.toNat = 0 ∨ 7 < code.toNat)
    (none : code ∉ [0x10, 0x11, 0x12, 0x13, 0x20, 0x21, 0x30, 0x31]) : askOf 2 code = .badOperation := by
  revert code; decide

theorem askOf_badLease {code : Octet} (names : 3 < code.toNat) : askOf 3 code = .badOperation := by
  revert code; decide

theorem askOf_read (cls : ItemClass) : askOf 0 cls.code = .read cls := by cases cls <;> rfl

theorem askOf_write (cls : ItemClass) : askOf 1 cls.code = .write cls := by cases cls <;> rfl

theorem askOf_record {code : Octet} (low : 1 ≤ code.toNat) (high : code.toNat ≤ 7) : ∃ c, askOf 2 code = .record c := by
  have named : code = 1 ∨ code = 2 ∨ code = 3 ∨ code = 4 ∨ code = 5 ∨ code = 6 ∨ code = 7 := by revert code; decide
  rcases named with rfl | rfl | rfl | rfl | rfl | rfl | rfl <;> exact ⟨_, rfl⟩

theorem askOf_lease {code : Octet} (names : code.toNat ≤ 3) : ∃ o, askOf 3 code = .lease o := by
  have named : code = 0 ∨ code = 1 ∨ code = 2 ∨ code = 3 := by revert code; decide
  rcases named with rfl | rfl | rfl | rfl <;> exact ⟨_, rfl⟩

/-! ### The six checks of the form -/

theorem State.refusalOf_form {a : Ask} {q : Request} {r : Answer} (form : a.formRefusal q = some r) (u : State) (broadcast : Bool) :
    u.refusalOf broadcast a q = some r := by
  rw [State.refusalOf, form]

theorem rangeRefusal_count {cls : ItemClass} {q : Request} (count : q.count.toNat = 0 ∨ cls.maxCount < q.count.toNat) :
    rangeRefusal cls q = some (.plain .badItem 0) :=
  if_pos count

theorem rangeRefusal_first {cls : ItemClass} {q : Request} (low : 1 ≤ q.count.toNat) (high : q.count.toNat ≤ cls.maxCount)
    (beyond : cls.size < q.first.toNat + q.count.toNat) :
    rangeRefusal cls q = some (.plain .badItem (BitVec.ofNat 16 (max cls.size q.first.toNat))) := by
  rw [rangeRefusal, if_neg (by omega), if_pos beyond]

theorem Ask.formRefusal_readOnly {cls : ItemClass} (readOnly : cls.readOnly = true) (q : Request) :
    Ask.formRefusal (.write cls) q = some (.plain .badOperation 0) :=
  if_pos readOnly

theorem Ask.formRefusal_write {cls : ItemClass} {q : Request} {r : Answer} (writable : cls.readOnly = false)
    (range : rangeRefusal cls q = some r) : Ask.formRefusal (.write cls) q = some r := by
  simp [Ask.formRefusal, writable, range]

/-- A READ, or a WRITE of a class that may be written, is refused by the count and index check. -/
theorem Ask.formRefusal_range {op : BitVec 4} {cls : ItemClass} (kind : op = 0 ∨ op = 1 ∧ cls.readOnly = false) {q : Request}
    {r : Answer} (range : rangeRefusal cls q = some r) : (askOf op cls.code).formRefusal q = some r := by
  rcases kind with rfl | ⟨rfl, writable⟩
  · rw [askOf_read]; exact range
  · rw [askOf_write]; exact Ask.formRefusal_write writable range

theorem Ask.formRefusal_zero {cls : ItemClass} {q : Request} (guarded : cls = .shadowSlot ∨ cls = .bankLength) (within : q.within cls)
    (first : q.first = 0) : Ask.formRefusal (.write cls) q = some (.plain .badItem 0) := by
  have range := rangeRefusal_within q cls within
  rcases guarded with rfl | rfl <;> simp [Ask.formRefusal, range, first, ItemClass.readOnly, guardsEntryZero]

theorem Ask.formRefusal_record {q : Request} (bad : 255 < q.first.toNat ∨ q.count ≠ 1) (c : RecordCommand) :
    Ask.formRefusal (.record c) q = some (.plain .badItem 0) :=
  if_pos bad

/-- Settles O25, check by check. -/
theorem malformedRequestsAreRefused : Obligations.MalformedRequestsAreRefused := by
  intro s dt op code q straps taken refused
  have refuses {status : Status} {detail : Word16} (form : (askOf op code).formRefusal q = some (.plain status detail)) :
      refused status detail := exec_requestCell_refused taken dt straps fun u _ => u.refusalOf_form form _
  refine ⟨fun names => refuses ?_, fun reads names => refuses ?_, fun command names none => refuses ?_,
    fun lease names => refuses ?_, fun cls readOnly => ?_, fun cls named kind => ⟨fun count => refuses ?_,
    fun low high beyond => refuses ?_⟩, fun cls named write guarded within first => refuses ?_,
    fun command low high bad => refuses ?_⟩
  · rw [askOf_badOperation names]; rfl
  · rw [askOf_badClass reads names]; rfl
  · rw [command, askOf_badCommand names none]; rfl
  · rw [lease, askOf_badLease names]; rfl
  · rw [exec_write, s.requestArrival_refused dt (.write cls) q s.straps _ taken fun u _ =>
      u.refusalOf_form (Ask.formRefusal_readOnly readOnly q) _]
    rfl
  · rw [named]; exact Ask.formRefusal_range kind (rangeRefusal_count count)
  · rw [named]; exact Ask.formRefusal_range kind (rangeRefusal_first low high beyond)
  · rw [named, write, askOf_write]; exact Ask.formRefusal_zero guarded within first
  · obtain ⟨c, asks⟩ := askOf_record low high
    rw [command, asks]; exact Ask.formRefusal_record bad c

/-! ### Broadcast and lease -/

/-- A request of the right form passes step 3. -/
theorem formRefusal_passes {op : BitVec 4} {code : Octet} {q : Request} (form : passesForm op code q) :
    (askOf op code).formRefusal q = none := by
  rcases form with ⟨rfl, cls, rfl, within⟩ | ⟨rfl, cls, rfl, writable, within, zero⟩ | ⟨rfl, ⟨low, high, first, count⟩ | command⟩ |
    ⟨rfl, names⟩
  · rw [askOf_read]; exact rangeRefusal_within q cls within
  · have unguarded : guardsEntryZero cls = true → q.first ≠ 0 := fun guarded => zero (by cases cls <;> simp_all [guardsEntryZero])
    rw [askOf_write]
    simp only [Ask.formRefusal, writable, rangeRefusal_within q cls within]
    rw [if_neg (by decide), if_neg fun both => ?_]
    obtain ⟨guarded, first⟩ := Bool.and_eq_true_iff.mp both
    exact unguarded guarded (by simpa using first)
  · obtain ⟨c, asks⟩ := askOf_record low high
    rw [asks]; exact if_neg (by simp [count, Nat.not_lt.mpr first])
  · simp only [List.mem_cons, List.not_mem_nil, or_false] at command
    rcases command with rfl | rfl | rfl | rfl | rfl | rfl | rfl | rfl <;> rfl
  · obtain ⟨o, asks⟩ := askOf_lease names
    rw [asks]; rfl

/-- The operations and codes that broadcast bars (R164). -/
abbrev barsOnBroadcast (op : BitVec 4) (code : Octet) : Prop := op = 1 ∨ op = 3 ∨ op = 2 ∧ (code = 0x30 ∨ code = 0x31)

theorem barredOnBroadcast_of_form {op : BitVec 4} {code : Octet} {q : Request} (form : passesForm op code q) :
    (askOf op code).barredOnBroadcast = decide (barsOnBroadcast op code) := by
  rcases form with ⟨rfl, cls, rfl, -⟩ | ⟨rfl, cls, rfl, -⟩ | ⟨rfl, ⟨low, high, -⟩ | command⟩ | ⟨rfl, names⟩
  · rw [askOf_read]; cases cls <;> rfl
  · rw [askOf_write]; cases cls <;> rfl
  · clear q; revert code; decide
  · simp only [List.mem_cons, List.not_mem_nil, or_false] at command
    rcases command with rfl | rfl | rfl | rfl | rfl | rfl | rfl | rfl <;> rfl
  · clear q; revert code; decide

theorem judgedByLease_of_form {op : BitVec 4} {code : Octet} {q : Request} (form : passesForm op code q) (judged : op = 1 ∨ op = 2) :
    (askOf op code).judgedByLease = true := by
  rcases form with ⟨rfl, -⟩ | ⟨rfl, cls, rfl, -⟩ | ⟨rfl, ⟨low, high, -⟩ | command⟩ | ⟨rfl, -⟩
  · exact absurd judged (by decide)
  · rw [askOf_write]; rfl
  · obtain ⟨c, asks⟩ := askOf_record low high
    rw [asks]; rfl
  · simp only [List.mem_cons, List.not_mem_nil, or_false] at command
    rcases command with rfl | rfl | rfl | rfl | rfl | rfl | rfl | rfl <;> rfl
  · exact absurd judged (by decide)

theorem Lease.refusal_free {l : Lease} (free : l.state = .free) (m : Manager) (epoch : Word16) (epochRead : Bool) :
    l.refusal m epoch epochRead = some (.plain .notHolder 255) := by
  simp [Lease.refusal, Lease.heldBy, Lease.holderDetail, free]

theorem Lease.refusal_other {l : Lease} {h m : Manager} (held : l.state = .held) (holder : l.holder = some h) (other : h ≠ m)
    (epoch : Word16) (epochRead : Bool) : l.refusal m epoch epochRead = some (.plain .notHolder (h.setWidth 16)) := by
  simp [Lease.refusal, Lease.heldBy, Lease.holderDetail, held, holder, other]

theorem Lease.refusal_stale {l : Lease} {m : Manager} (held : l.state = .held) (holder : l.holder = some m) {epoch : Word16}
    (old : epoch ≠ l.epoch) : l.refusal m epoch true = some (.plain .staleEpoch l.epoch) := by
  simp [Lease.refusal, Lease.heldBy, held, holder, old]

/-- Settles O26: step 4 before step 5, and the holder before the epoch. -/
theorem broadcastAndLeaseRefusals : Obligations.BroadcastAndLeaseRefusals := by
  intro s dt op code q straps taken form refused barred
  have passes := formRefusal_passes form
  have bars := barredOnBroadcast_of_form form
  refine ⟨fun every stops => ?_, fun judged open_ => ?_⟩
  · refine exec_requestCell_refused taken dt straps fun u _ => ?_
    rw [State.refusalOf, passes, bars, decide_eq_true every, decide_eq_true (by exact stops)]; rfl
  · have unbarred : (decide (q.dest = 127#7) && (askOf op code).barredOnBroadcast) = false := by
      rcases open_ with alone | free
      · rw [decide_eq_false alone, Bool.false_and]
      · rw [bars, decide_eq_false (p := barsOnBroadcast op code) free, Bool.and_false]
    have refuses {status : Status} {detail : Word16}
        (lease : s.lease.refusal q.manager q.epoch (!decide (q.dest = 127#7)) = some (.plain status detail)) :
        refused status detail := by
      refine exec_requestCell_refused taken dt straps fun u same => ?_
      rw [State.refusalOf, passes, unbarred, judgedByLease_of_form form judged, same]
      exact lease
    refine ⟨fun free => refuses (Lease.refusal_free free ..),
      fun h held holder other => refuses (Lease.refusal_other held holder other ..),
      fun held holder alone old => refuses ?_⟩
    rw [decide_eq_false alone]
    exact Lease.refusal_stale held holder old

/-! ### READ -/

theorem State.readAnswer_layout (u : State) (cls : ItemClass) (q : Request) :
    u.readAnswer cls q = { status := .ok, detail := 0, count := q.count,
                           data := packData ((List.range q.count.toNat).flatMap fun j => u.entryLayout cls (q.index j)) } := by
  simp only [State.readAnswer, State.entryOctets_eq]

/-- Settles O27: the entries are those the layouts say. -/
theorem readReturnsTheEntries : Obligations.ReadReturnsTheEntries := by
  intro s dt cls q taken within
  have passes (u : State) : u.refusalOf (decide (q.dest = 127#7)) (.read cls) q = none := by
    simp [State.refusalOf, Ask.formRefusal, rangeRefusal_within q cls within, Ask.barredOnBroadcast, Ask.judgedByLease]
  refine congrArg Host.Outcome.next ((s.requestArrival_executed dt (.read cls) q s.straps taken fun u _ => passes u).trans ?_)
  refine State.carried_congr ?_
  dsimp only [State.execute]
  rw [State.reply_eq, State.readAnswer_layout]

end Sys2Proof.Machine
end
section
/-! Record commands and CLEAR_PORT_COUNTERS (R22 to R28, R144). -/

namespace Sys2Proof.Machine

/-! ### From the answer of a block to the whole arrival -/

/-- A request carried around what its block does and answers is carried around any description of it on the state that the
arrival leaves. -/
theorem exec_of_executed {s : State} {i : Instr} {dt : Nat} {op : BitVec 4} {code : Octet} {q : Request} {act : State → State × Answer}
    {f : State → State} {status : Status} {detail : Word16}
    (run : exec i s = .next (s.carried dt op code q fun u => (act u).1.reply q (act u).2))
    (does : act (s.heard dt .uIn) = (f (s.heard dt .uIn), .plain status detail)) :
    exec i s = .next (s.carried dt op code q fun u => (f u).answered q status detail) := by
  rw [run]
  refine congrArg Host.Outcome.next (State.carried_congr ?_)
  rw [does, State.reply_plain]

/-- A record command that passes its checks, from what the Stream Table does with it. -/
theorem exec_recordCommand {s : State} {q : Request} (allowed : s.allowedRecord q) {i : Instr} {dt : Nat} {c : RecordCommand}
    {f : State → State} {status : Status} {detail : Word16}
    (row : exec i s = .next (s.requestArrival dt (.record c) q s.straps))
    (does : (s.heard dt .uIn).executeRecord c q.record = (f (s.heard dt .uIn), .plain status detail)) :
    exec i s = .next (s.carried dt 2 c.code q fun u => (f u).answered q status detail) :=
  exec_of_executed (row.trans (congrArg Host.Outcome.next (s.recordCommand_eq dt c q s.straps allowed))) does

/-! ### The table of states (R22) -/

section Table

variable {u : State} {r : RecordIndex} {x : Record} (found : u.record r = x)
include found

theorem State.doFill_moves (rests : x.state = .idle ∨ x.state = .faulted) :
    u.doFill r = (u.setRecord r { x with state := .filling }, .plain .ok 0) := by
  rw [State.doFill, found]
  rcases rests with state | state <;> rw [state] <;> rfl

theorem State.doFill_same (state : x.state = .filling) : u.doFill r = (u, .plain .noChange 0) := by
  rw [State.doFill, found]; rw [state]; rfl

theorem State.doFill_wrong (other : x.state ∈ [.unused, .starting, .running, .paused]) :
    u.doFill r = (u, .plain .wrongState (x.state.code.setWidth 16)) := by
  rw [State.doFill, found]; dsimp only [Record.wrongState]
  cases state : x.state <;> simp [state] at other ⊢

theorem State.doStart_moves (rests : x.state = .idle ∨ x.state = .filling ∨ x.state = .faulted) :
    u.doStart r = ((u.setRecord r { x with state := .starting, misses := 0 }).linesSafe r, .plain .ok 0) := by
  rw [State.doStart, found]
  rcases rests with state | state | state <;> rw [state] <;> rfl

theorem State.doStart_same (goes : x.state ∈ [.starting, .running]) : u.doStart r = (u, .plain .noChange 0) := by
  rw [State.doStart, found]; dsimp only [Record.wrongState]
  cases state : x.state <;> simp [state, Answer.noChange] at goes ⊢

theorem State.doStart_wrong (other : x.state ∈ [.unused, .paused]) :
    u.doStart r = (u, .plain .wrongState (x.state.code.setWidth 16)) := by
  rw [State.doStart, found]; dsimp only [Record.wrongState]
  cases state : x.state <;> simp [state] at other ⊢

theorem State.doPause_moves (state : x.state = .running) :
    u.doPause r = (u.setRecord r { x with state := .paused }, .plain .ok 0) := by
  rw [State.doPause, found]; rw [state]; rfl

theorem State.doPause_same (state : x.state = .paused) : u.doPause r = (u, .plain .noChange 0) := by
  rw [State.doPause, found]; rw [state]; rfl

theorem State.doPause_wrong (other : x.state ∈ [.unused, .idle, .filling, .starting, .faulted]) :
    u.doPause r = (u, .plain .wrongState (x.state.code.setWidth 16)) := by
  rw [State.doPause, found]; dsimp only [Record.wrongState]
  cases state : x.state <;> simp [state] at other ⊢

theorem State.doResume_moves (state : x.state = .paused) :
    u.doResume r = (u.setRecord r { x with state := .running }, .plain .ok 0) := by
  rw [State.doResume, found]; rw [state]; rfl

theorem State.doResume_same (state : x.state = .running) : u.doResume r = (u, .plain .noChange 0) := by
  rw [State.doResume, found]; rw [state]; rfl

theorem State.doResume_wrong (other : x.state ∈ [.unused, .idle, .filling, .starting, .faulted]) :
    u.doResume r = (u, .plain .wrongState (x.state.code.setWidth 16)) := by
  rw [State.doResume, found]; dsimp only [Record.wrongState]
  cases state : x.state <;> simp [state] at other ⊢

theorem State.stopRecord_eq :
    u.stopRecord r = ((({ u with free := u.free + x.queue.length } : State).setRecord r
      { x with state := .idle, misses := 0, lastValue := none, queue := [] }).linesSafe r) := by
  subst found
  simp [State.stopRecord, State.flushQueue, State.linesSafe, State.setRecord, State.record]
  rfl

theorem State.doStop_moves (used : x.state ≠ .unused) (busy : x.state ≠ .idle) :
    u.doStop r = (u.stopRecord r, .plain .ok 0) := by
  rw [State.doStop, found]
  cases state : x.state with
  | unused => exact absurd state used
  | idle => exact absurd state busy
  | filling | starting | running | paused | faulted => rfl

theorem State.doStop_same (state : x.state = .idle) : u.doStop r = (u, .plain .noChange 0) := by
  rw [State.doStop, found]; rw [state]; rfl

theorem State.doStop_wrong (state : x.state = .unused) : u.doStop r = (u, .plain .wrongState (x.state.code.setWidth 16)) := by
  rw [State.doStop, found]; dsimp only [Record.wrongState]; rw [state]

theorem State.doRelease_idle (state : x.state = .idle) :
    u.doRelease r = match u.banks.firstNaming r with
      | some k => (u, .plain .inUse (BitVec.ofNat 16 k))
      | none => (u.releaseRecord r, .plain .ok 0) := by
  rw [State.doRelease, found]; rw [state]; rfl

theorem State.doRelease_same (state : x.state = .unused) : u.doRelease r = (u, .plain .noChange 0) := by
  rw [State.doRelease, found]; rw [state]; rfl

theorem State.doRelease_wrong (other : x.state ∈ [.filling, .starting, .running, .paused, .faulted]) :
    u.doRelease r = (u, .plain .wrongState (x.state.code.setWidth 16)) := by
  rw [State.doRelease, found]; dsimp only [Record.wrongState]
  cases state : x.state <;> simp [state] at other ⊢

theorem State.doClearCounters_clears (used : x.state ≠ .unused) :
    u.doClearCounters r =
      (u.setRecord r { x with counters := .zero }, .plain (if x.counters ≠ .zero then .ok else .noChange) 0) := by
  have answer : Answer.ofChange (x.counters != .zero) = .plain (if x.counters ≠ .zero then .ok else .noChange) 0 := by
    simp [Answer.ofChange_eq]
  rw [State.doClearCounters, found, ← answer]
  cases state : x.state with
  | unused => exact absurd state used
  | idle | filling | starting | running | paused | faulted => rfl

theorem State.doClearCounters_wrong (state : x.state = .unused) : u.doClearCounters r = (u, .plain .wrongState 0) := by
  rw [State.doClearCounters, found]; dsimp only [Record.wrongState]; rw [state]; rfl

end Table

/-- Settles O33, entry by entry of the table. -/
theorem fillStartPauseResume : Obligations.FillStartPauseResume := by
  intro s dt q allowed x
  have found : (s.heard dt .uIn).record q.record = x := State.heard_record ..
  exact ⟨fun rests => exec_recordCommand (c := .fill) allowed rfl (State.doFill_moves found rests),
    fun rests => exec_recordCommand (c := .start) allowed rfl (State.doStart_moves found rests),
    fun runs => exec_recordCommand (c := .pause) allowed rfl (State.doPause_moves found runs),
    fun paused => exec_recordCommand (c := .resume) allowed rfl (State.doResume_moves found paused)⟩

/-- Settles O34: the flush and the stop write the record once. -/
theorem stopFlushesTheRecord : Obligations.StopFlushesTheRecord := by
  intro s dt q allowed x used busy
  have found : (s.heard dt .uIn).record q.record = x := State.heard_record ..
  refine exec_recordCommand (c := .stop) allowed rfl
    (f := fun u => (({ u with free := s.free + x.queue.length } : State).setRecord _ _).linesSafe _) ?_
  refine (State.doStop_moves found used busy).trans ?_
  rw [State.stopRecord_eq found, State.heard_free]

/-- Settles O37, entry by entry of the table. -/
theorem recordCommandsThatChangeNothing : Obligations.RecordCommandsThatChangeNothing := by
  intro s dt q allowed st same wrong
  have found : (s.heard dt .uIn).record q.record = s.record q.record := State.heard_record ..
  exact ⟨fun h => exec_recordCommand (c := .fill) allowed rfl (State.doFill_same found h),
    fun h => exec_recordCommand (c := .fill) allowed rfl (State.doFill_wrong found h),
    fun h => exec_recordCommand (c := .start) allowed rfl (State.doStart_same found h),
    fun h => exec_recordCommand (c := .start) allowed rfl (State.doStart_wrong found h),
    fun h => exec_recordCommand (c := .pause) allowed rfl (State.doPause_same found h),
    fun h => exec_recordCommand (c := .pause) allowed rfl (State.doPause_wrong found h),
    fun h => exec_recordCommand (c := .resume) allowed rfl (State.doResume_same found h),
    fun h => exec_recordCommand (c := .resume) allowed rfl (State.doResume_wrong found h),
    fun h => exec_recordCommand (c := .stop) allowed rfl (State.doStop_same found h),
    fun h => exec_recordCommand (c := .stop) allowed rfl (State.doStop_wrong found h),
    fun h => exec_recordCommand (c := .release) allowed rfl (State.doRelease_same found h),
    fun h => exec_recordCommand (c := .release) allowed rfl (State.doRelease_wrong found h)⟩

/-! ### RELEASE (R27) -/

theorem SlotEntry.names_iff (r : RecordIndex) : (fun e : SlotEntry => e.names r = true) = fun e => e = .stream r := by
  funext e; simp [SlotEntry.names]

theorem Banks.firstNaming_active {b : Banks} {r : RecordIndex} {k : Nat} (first : b.active.isFirst (· = .stream r) k) :
    b.firstNaming r = some k := by
  rw [Banks.firstNaming, (Bank.firstSlot_eq_some ..).mpr (by rw [SlotEntry.names_iff]; exact first)]

theorem Banks.firstNaming_pending {b : Banks} {r : RecordIndex} {k : Nat} (none : b.active.hasNone (· = .stream r))
    (pending : ∃ target, b.condition = .swapPending target) (first : b.shadow.isFirst (· = .stream r) k) :
    b.firstNaming r = some k := by
  obtain ⟨target, pending⟩ := pending
  rw [Banks.firstNaming, (Bank.firstSlot_eq_none ..).mpr (by rw [SlotEntry.names_iff]; exact none), pending]
  exact (Bank.firstSlot_eq_some ..).mpr (by rw [SlotEntry.names_iff]; exact first)

theorem Banks.firstNaming_none {b : Banks} {r : RecordIndex} (none : b.active.hasNone (· = .stream r))
    (free : (∃ target, b.condition = .swapPending target) → b.shadow.hasNone (· = .stream r)) : b.firstNaming r = Option.none := by
  rw [Banks.firstNaming, (Bank.firstSlot_eq_none ..).mpr (by rw [SlotEntry.names_iff]; exact none)]
  cases condition : b.condition with
  | swapPending target => exact (Bank.firstSlot_eq_none ..).mpr (by rw [SlotEntry.names_iff]; exact free ⟨target, condition⟩)
  | free | copying => rfl

/-- Settles O35: the search of R27 decides between IN_USE and the release. -/
theorem releaseUnallocatesTheRecord : Obligations.ReleaseUnallocatesTheRecord := by
  intro s dt q allowed r x names pending idle
  have found : (s.heard dt .uIn).record r = x := State.heard_record ..
  have banks : (s.heard dt .uIn).banks = s.banks := State.heard_banks ..
  have refused {k : Nat} (first : s.banks.firstNaming r = some k) : exec (.release dt q) s =
      .next (s.carried dt 2 0x06 q fun u => u.answered q .inUse (BitVec.ofNat 16 k)) := by
    refine exec_recordCommand (c := .release) allowed rfl ((State.doRelease_idle found idle).trans ?_)
    rw [banks, first]
  refine ⟨fun k first => refused (Banks.firstNaming_active first),
    fun k none pending first => refused (Banks.firstNaming_pending none pending first), fun none free => ?_⟩
  have unnamed : (s.heard dt .uIn).banks.firstNaming r = Option.none := by rw [banks]; exact Banks.firstNaming_none none free
  refine exec_recordCommand (c := .release) allowed rfl ((State.doRelease_idle found idle).trans ?_)
  rw [unnamed]
  dsimp only
  rw [State.releaseRecord, found]
  rfl

/-! ### Counters (R28, R144) -/

theorem saturate_word_ne_zero (c : Word16) : saturate c ≠ 0 := by
  have ones : BitVec.allOnes 16 = 0xFFFF#16 := rfl
  rw [saturate, ones]
  split <;> bv_omega

/-- The arrival of the request itself is in the port counters. -/
theorem State.heard_ports_ne_zero (s : State) (dt : Nat) : (s.heard dt .uIn).ports ≠ .zero := by
  intro zero
  have counted : (s.heard dt .uIn).ports.uGood = 0 := congrArg PortCounters.uGood zero
  exact saturate_word_ne_zero _ counted

/-- Settles O36, by the record's state and by what was counted. -/
theorem countersAreCleared : Obligations.CountersAreCleared := by
  intro s dt q x zero
  have found : (s.heard dt .uIn).record q.record = x := State.heard_record ..
  refine ⟨fun allowed used => exec_recordCommand (c := .clearCounters) allowed rfl (State.doClearCounters_clears found used),
    fun allowed unused => exec_recordCommand (c := .clearCounters) allowed rfl (State.doClearCounters_wrong found unused),
    fun allowed => ?_⟩
  refine exec_of_executed
    (congrArg Host.Outcome.next (s.command_eq dt .clearPortCounters q s.straps rfl allowed (.inl rfl))) ?_
  have changed : ((s.heard dt .uIn).ports != .zero) = true := bne_iff_ne.mpr (s.heard_ports_ne_zero dt)
  rw [State.execute, State.doClearPorts, changed]
  rfl

end Sys2Proof.Machine
end
section
/-! The shadow bank, the settings and the restart of the lock as the agent commands them (R58 to R66, R71, R72, R129, R170). -/

namespace Sys2Proof.Machine

/-! ### From the answer of a block to the whole arrival -/

/-- A WRITE that passes its checks, from what the owner of its class does with it. -/
theorem exec_writeRow {s : State} {q : Request} (allowed : s.allowedAlone q) {i : Instr} {dt : Nat} {cls : ItemClass}
    (writable : cls.readOnly = false) (within : q.within cls) (zero : guardsEntryZero cls = true → q.first ≠ 0)
    {f : State → State} {status : Status} {detail : Word16}
    (row : exec i s = .next (s.requestArrival dt (.write cls) q s.straps))
    (does : (s.heard dt .uIn).executeWrite cls q = (f (s.heard dt .uIn), .plain status detail)) :
    exec i s = .next (s.carried dt 1 cls.code q fun u => (f u).answered q status detail) :=
  exec_of_executed (row.trans (congrArg Host.Outcome.next (s.write_eq dt cls q s.straps allowed writable within zero))) does

/-- A command that broadcast allows, from what its block does with it. -/
theorem exec_commandRow {s : State} {q : Request} (allowed : s.allowed q) {i : Instr} {dt : Nat} {a : Ask}
    (form : a.formRefusal q = none) (open_ : a.barredOnBroadcast = false) {f : State → State} {status : Status} {detail : Word16}
    (row : exec i s = .next (s.requestArrival dt a q s.straps))
    (does : (s.heard dt .uIn).execute a q s.straps = (f (s.heard dt .uIn), .plain status detail)) :
    exec i s = .next (s.carried dt a.operation a.code q fun u => (f u).answered q status detail) :=
  exec_of_executed (row.trans (congrArg Host.Outcome.next (s.command_eq dt a q s.straps form allowed (.inl open_)))) does

theorem Answer.ofChange_iff {changed : Bool} {P : Prop} [Decidable P] (same : changed = true ↔ P) :
    Answer.ofChange changed = .plain (if P then .ok else .noChange) 0 := by
  rw [Answer.ofChange_eq, if_congr same rfl rfl]

/-! ### Writes of the shadow (R60, R61) -/

theorem Bank.writeSlots_append (b : Bank) (ws vs : List (Nat × Word16)) : b.writeSlots (ws ++ vs) = (b.writeSlots ws).writeSlots vs := by
  induction ws generalizing b with
  | nil => rfl
  | cons write ws ih =>
    obtain ⟨k, w⟩ := write
    simp only [List.cons_append, Bank.writeSlots]
    cases SlotEntry.ofWord w <;> exact ih _

/-- Words that name entry kinds, written one after another, are the entries they name. -/
theorem Bank.writeSlots_range (b : Bank) {first : Nat} {word : Nat → Word16} {e : Nat → SlotEntry} {n : Nat} (fits : first + n ≤ 1024)
    (names : ∀ j < n, SlotEntry.ofWord (word j) = some (e j)) :
    (b.writeSlots ((List.range n).map fun j => (first + j, word j))).length = b.length ∧
    ∀ k, (b.writeSlots ((List.range n).map fun j => (first + j, word j))).entry k =
      if first ≤ k ∧ k < first + n then e (k - first) else b.entry k := by
  induction n with
  | zero => exact ⟨rfl, fun k => by rw [if_neg (by omega)]; rfl⟩
  | succ n ih =>
    obtain ⟨length, entry⟩ := ih (by omega) fun j below => names j (by omega)
    rw [List.range_succ, List.map_append, Bank.writeSlots_append, List.map_singleton, Bank.writeSlots, names n (by omega)]
    simp only [Bank.writeSlots, Bank.length_setEntry, length, Bank.entry_setEntry, entry, true_and]
    intro k
    by_cases last : k = first + n
    · subst last
      rw [if_pos (by omega), if_pos (by omega), Nat.add_sub_cancel_left]
    · rw [if_neg (by omega)]
      exact if_congr (by omega) rfl rfl

theorem slotWrites_find_none {q : Request} {e : Nat → SlotEntry}
    (names : ∀ j < q.count.toNat, SlotEntry.ofWord (dataWord q.data (2 * j)) = some (e j)) :
    (slotWrites q).find? (fun w => (SlotEntry.ofWord w.2).isNone) = none := by
  rw [List.find?_eq_none]
  intro w isWrite
  obtain ⟨j, below, rfl⟩ := List.mem_map.mp isWrite
  simp [names j (List.mem_range.mp below)]

theorem slotWrites_find_first {q : Request} {j : Nat} (refused : firstRefused (slotJudgement q) q.count.toNat j .badValue) :
    (slotWrites q).find? (fun w => (SlotEntry.ofWord w.2).isNone) = some (q.index j, dataWord q.data (2 * j)) := by
  obtain ⟨below, bad, before⟩ := refused
  have isNone (i : Nat) : (SlotEntry.ofWord (dataWord q.data (2 * i))).isNone = (slotJudgement q i).isSome := by
    unfold slotJudgement
    cases SlotEntry.ofWord (dataWord q.data (2 * i)) <;> simp
  have found : (List.range q.count.toNat).find? (fun i => (slotJudgement q i).isSome) = some j := by
    rw [List.find?_range_eq_some]
    exact ⟨by rw [bad]; rfl, List.mem_range.mpr below, fun i earlier => by rw [before i earlier]; rfl⟩
  rw [slotWrites, List.find?_map]
  simp only [Function.comp_def, isNone, found]
  rfl

theorem slotWrites_changes {q : Request} {e : Nat → SlotEntry} (b : Bank)
    (names : ∀ j < q.count.toNat, SlotEntry.ofWord (dataWord q.data (2 * j)) = some (e j)) :
    ((slotWrites q).any fun w => SlotEntry.ofWord w.2 != some (b.entry w.1)) = true ↔
      ∃ j < q.count.toNat, e j ≠ b.entry (q.index j) := by
  simp only [slotWrites, List.any_map, List.any_eq_true, List.mem_range, Function.comp_def, bne_iff_ne]
  exact exists_congr fun j => and_congr_right fun below => by rw [names j below, Ne, Option.some_inj]

section Writes

variable {u : State} (free : u.banks.condition = .free) {q : Request}
include free

theorem State.writeShadow_refused {j : Nat} (refused : firstRefused (slotJudgement q) q.count.toNat j .badValue) :
    u.writeShadow q = (u, .plain .badValue (BitVec.ofNat 16 (q.index j))) := by
  rw [State.writeShadow, free]; dsimp only; rw [slotWrites_find_first refused]

theorem State.writeShadow_applied {e : Nat → SlotEntry}
    (names : ∀ j < q.count.toNat, SlotEntry.ofWord (dataWord q.data (2 * j)) = some (e j)) :
    u.writeShadow q = (u.withBanks fun b => { b with shadow := b.shadow.writeSlots (slotWrites q) },
      .plain (if ∃ j < q.count.toNat, e j ≠ u.banks.shadow.entry (q.index j) then .ok else .noChange) 0) := by
  rw [State.writeShadow, free]; dsimp only
  rw [slotWrites_find_none names, Answer.ofChange_iff (slotWrites_changes _ names)]

theorem State.writeLength_applied
    (legal : (dataWord q.data 0).toNat = 0 ∨ 8 ≤ (dataWord q.data 0).toNat ∧ (dataWord q.data 0).toNat ≤ 1024) :
    u.writeLength q = (u.withBanks fun b => { b with shadow := { b.shadow with length := (dataWord q.data 0).toNat } },
      .plain (if (dataWord q.data 0).toNat ≠ u.banks.shadow.length then .ok else .noChange) 0) := by
  rw [State.writeLength, free]; dsimp only
  rw [if_pos (by exact legal), Answer.ofChange_iff bne_iff_ne]

theorem State.writeLength_refused
    (illegal : ¬((dataWord q.data 0).toNat = 0 ∨ 8 ≤ (dataWord q.data 0).toNat ∧ (dataWord q.data 0).toNat ≤ 1024)) :
    u.writeLength q = (u, .plain .badValue 1) := by
  rw [State.writeLength, free]; dsimp only; rw [if_neg (by exact illegal)]

end Writes

/-- Settles O30: in FREE the first word that names no kind refuses the write, else every word is written. -/
theorem shadowWrites : Obligations.ShadowWrites := by
  intro s dt q e allowed first free
  have banks : (s.heard dt .uIn).banks = s.banks := State.heard_banks ..
  have heardFree : (s.heard dt .uIn).banks.condition = .free := banks ▸ free
  refine ⟨fun j within refused => ?_, fun within names => ?_, fun within => ⟨fun legal => ?_, fun illegal => ?_⟩⟩
  · exact exec_writeRow (cls := .shadowSlot) allowed rfl within (fun _ => first) rfl (State.writeShadow_refused heardFree refused)
  · obtain ⟨length, entry⟩ := s.banks.shadow.writeSlots_range (first := q.first.toNat) within.2.2 names
    refine ⟨s.banks.shadow.writeSlots (slotWrites q), ?_, length, fun k _ => entry k⟩
    refine exec_writeRow (cls := .shadowSlot) allowed rfl within (fun _ => first) rfl
      ((State.writeShadow_applied heardFree names).trans ?_)
    rw [State.withBanks, banks]
  · refine exec_writeRow (cls := .bankLength) allowed rfl within (fun _ => first) rfl
      ((State.writeLength_applied heardFree legal).trans ?_)
    rw [State.withBanks, banks]
  · exact exec_writeRow (cls := .bankLength) allowed rfl within (fun _ => first) rfl (State.writeLength_refused heardFree illegal)

/-! ### The shadow condition (R58, R62, R71) -/

section Condition

variable {u : State}

theorem State.locked_of_copying {takenAt done : Nat} (copying : u.banks.condition = .copying takenAt done) (q : Request)
    (target : SwapTarget) :
    u.askCopy = (u, .plain .busy 0) ∧ u.askSwap target = (u, .plain .busy 0) ∧ u.writeShadow q = (u, .plain .busy 0) ∧
      u.writeLength q = (u, .plain .busy 0) ∧ u.cancelSwap = (u, .plain .notPending 0) := by
  simp [State.askCopy, State.askSwap, State.writeShadow, State.writeLength, State.cancelSwap, copying]

theorem State.locked_of_pending {taking : SwapTarget} (pending : u.banks.condition = .swapPending taking) (q : Request)
    (target : SwapTarget) :
    u.askCopy = (u, .plain .bankLocked 0) ∧ u.askSwap target = (u, .plain .bankLocked 0) ∧
      u.writeShadow q = (u, .plain .bankLocked 0) ∧ u.writeLength q = (u, .plain .bankLocked 0) ∧
      u.cancelSwap = (u.withBanks fun b => { b with condition := .free }, .plain .ok 0) := by
  simp [State.askCopy, State.askSwap, State.writeShadow, State.writeLength, State.cancelSwap, pending]
  rfl

theorem State.cancelSwap_free (free : u.banks.condition = .free) : u.cancelSwap = (u, .plain .notPending 0) := by
  simp [State.cancelSwap, free]

end Condition

/-- Settles O40: each request looks at the shadow condition first. -/
theorem shadowConditionGuardsTheShadow : Obligations.ShadowConditionGuardsTheShadow := by
  intro s dt q allowed pending copying refused locked
  have banks : (s.heard dt .uIn).banks = s.banks := State.heard_banks ..
  have locks {status : Status} (answers : ∀ target, (s.heard dt .uIn).askCopy = (s.heard dt .uIn, .plain status 0) ∧
      (s.heard dt .uIn).askSwap target = (s.heard dt .uIn, .plain status 0) ∧
      (s.heard dt .uIn).writeShadow q = (s.heard dt .uIn, .plain status 0) ∧
      (s.heard dt .uIn).writeLength q = (s.heard dt .uIn, .plain status 0)) : locked status := by
    obtain ⟨copy, swap, slots, length⟩ := answers .nextBoundary
    obtain ⟨-, swapAt, -⟩ := answers (.cycle (dataWord q.data 0))
    exact ⟨exec_commandRow (a := .copy) allowed rfl rfl rfl copy, exec_commandRow (a := .swap) allowed rfl rfl rfl swap,
      exec_commandRow (a := .swapAt) allowed rfl rfl rfl swapAt,
      fun alone first within => exec_writeRow (cls := .shadowSlot) ⟨allowed.1, allowed.2, alone⟩ rfl within (fun _ => first) rfl slots,
      fun alone first within => exec_writeRow (cls := .bankLength) ⟨allowed.1, allowed.2, alone⟩ rfl within (fun _ => first) rfl
        length⟩
  refine ⟨?_, ?_, ?_, fun none => ?_⟩
  · rintro ⟨takenAt, done, held⟩
    refine locks fun target => ?_
    obtain ⟨copy, swap, slots, length, -⟩ := State.locked_of_copying (banks ▸ held) q target
    exact ⟨copy, swap, slots, length⟩
  · rintro ⟨taking, held⟩
    refine locks fun target => ?_
    obtain ⟨copy, swap, slots, length, -⟩ := State.locked_of_pending (banks ▸ held) q target
    exact ⟨copy, swap, slots, length⟩
  · rintro ⟨taking, held⟩
    obtain ⟨-, -, -, -, cancel⟩ := State.locked_of_pending (banks ▸ held) q .nextBoundary
    refine exec_commandRow (a := .swapCancel) allowed rfl rfl rfl (cancel.trans ?_)
    rw [State.withBanks, banks]
  · refine exec_commandRow (a := .swapCancel) allowed rfl rfl rfl ?_
    cases condition : s.banks.condition with
    | free => exact State.cancelSwap_free (banks ▸ condition)
    | swapPending target => exact absurd ⟨target, condition⟩ none
    | copying takenAt done => exact (State.locked_of_copying (banks ▸ condition) q .nextBoundary).2.2.2.2

/-! ### COPY (R62, R63) -/

theorem exec_copyStep_of_copying {s : State} {takenAt done : Nat} (released : s.pinHeld = false)
    (copying : s.banks.condition = .copying takenAt done) (early : done < 63) : exec .copyStep s = .next (s.stepCopy takenAt done) := by
  refine congrArg Host.Outcome.next ((State.clocked_of_released released _).trans ?_)
  rw [State.copyTick, copying]
  exact if_pos (Nat.succ_lt_succ early)

theorem exec_copyCompletion_of_copying {s : State} {takenAt : Nat} (released : s.pinHeld = false)
    (copying : s.banks.condition = .copying takenAt 63) : exec .copyCompletion s = .next (s.completeCopy takenAt 63) := by
  refine congrArg Host.Outcome.next ((State.clocked_of_released released _).trans ?_)
  rw [State.copyEnd, copying]
  rfl

theorem Bank.eq_of_entries {a b : Bank} (length : a.length = b.length) (entry : ∀ k < 1024, a.entry k = b.entry k) : a = b := by
  obtain ⟨n, es⟩ := a
  obtain ⟨m, fs⟩ := b
  obtain rfl : n = m := length
  congr
  ext k below
  have same := entry k below
  simp only [Bank.entry, below, dif_pos] at same
  rw [same]

/-- Settles O38: each step writes its sixteen entries, and what the earlier steps wrote still equals the active bank's. -/
theorem copyMakesTheImage : Obligations.CopyMakesTheImage := by
  intro s
  refine ⟨fun dt q allowed free => exec_commandRow (a := .copy) allowed rfl rfl rfl ?_, fun takenAt done released copying =>
    ⟨fun early => ?_, fun last => ?_⟩⟩
  · have banks : (s.heard dt .uIn).banks = s.banks := State.heard_banks ..
    dsimp only [State.execute]
    rw [State.askCopy, banks, free, State.withBanks, banks, State.heard_now]
    rfl
  · exact ⟨copyEntries s.banks.active s.banks.shadow (16 * done) 16, exec_copyStep_of_copying released copying early,
      copyEntries_length .., fun k _ => copyEntries_entry _ _ _ _ _ (by omega)⟩
  · subst last
    have entry (k : Nat) := copyEntries_entry s.banks.active s.banks.shadow (16 * 63) 16 k (by omega)
    refine ⟨{ copyEntries s.banks.active s.banks.shadow (16 * 63) 16 with length := s.banks.active.length },
      exec_copyCompletion_of_copying released copying, rfl, fun k _ => entry k, fun law => Bank.eq_of_entries rfl fun k below => ?_⟩
    obtain ⟨-, -, -, -, -, image⟩ := law
    obtain ⟨-, -, before⟩ := image takenAt 63 copying
    refine (entry k).trans ?_
    split
    · rfl
    · exact before k (by omega)

/-! ### SWAP and SWAP_AT (R65, R66) -/

theorem State.namesUnused_iff (s : State) :
    (fun e => s.namesUnused e = true) = fun e => ∃ r, e = .stream r ∧ (s.record r).state = .unused := by
  funext e
  cases e <;> simp [State.namesUnused]

theorem State.heard_shadowFault (s : State) (dt : Nat) : (s.heard dt .uIn).shadowFault = s.shadowFault := by
  have names : (s.heard dt .uIn).namesUnused = s.namesUnused := by
    funext e; cases e <;> simp [State.namesUnused]
  simp only [State.shadowFault, State.heard_banks, State.heard_settings, names]

section Fault

variable {s : State}

theorem State.shadowFault_short
    (short : ¬(8 ≤ s.banks.shadow.length ∧ s.banks.shadow.length ≤ 1024) ∨
      ¬(s.settings.source = .line → s.settings.latency + s.settings.window < s.banks.shadow.length * 512)) :
    s.shadowFault = some 0 := by
  unfold State.shadowFault
  rw [← Bank.valid_iff] at short
  rcases short with invalid | wide
  · rw [if_pos (by simpa using invalid)]
  · have reaches := (Classical.not_imp.mp wide).imp_right Nat.not_lt.mp
    dsimp only
    split
    · rfl
    · exact if_pos reaches

variable (valid : 8 ≤ s.banks.shadow.length ∧ s.banks.shadow.length ≤ 1024)
  (fits : s.settings.source = .line → s.settings.latency + s.settings.window < s.banks.shadow.length * 512)
include valid fits

theorem State.shadowFault_fits :
    s.shadowFault = (s.banks.shadow.firstSlot s.namesUnused).map (BitVec.ofNat 16) := by
  have inside : ¬(s.settings.source = .line ∧ s.banks.shadow.length * 512 ≤ s.settings.latency + s.settings.window) :=
    fun both => Nat.not_lt.mpr both.2 (fits both.1)
  unfold State.shadowFault
  rw [if_neg (by simpa using (Bank.valid_iff _).mpr valid), if_neg (by exact inside)]
  cases s.banks.shadow.firstSlot s.namesUnused <;> rfl

theorem State.shadowFault_names {k : Nat}
    (first : s.banks.shadow.isFirst (fun e => ∃ r, e = .stream r ∧ (s.record r).state = .unused) k) :
    s.shadowFault = some (BitVec.ofNat 16 k) := by
  rw [State.shadowFault_fits valid fits, (Bank.firstSlot_eq_some ..).mpr (by rw [State.namesUnused_iff]; exact first)]
  rfl

theorem State.shadowFault_none
    (none : s.banks.shadow.hasNone (fun e => ∃ r, e = .stream r ∧ (s.record r).state = .unused)) : s.shadowFault = Option.none := by
  rw [State.shadowFault_fits valid fits, (Bank.firstSlot_eq_none ..).mpr (by rw [State.namesUnused_iff]; exact none)]
  rfl

end Fault

theorem State.askSwap_refused {u : State} (free : u.banks.condition = .free) {detail : Word16} (fault : u.shadowFault = some detail)
    (target : SwapTarget) : u.askSwap target = (u, .plain .invalidBank detail) := by
  rw [State.askSwap, free]; dsimp only; rw [fault]

theorem State.askSwap_accepted {u : State} (free : u.banks.condition = .free) (sound : u.shadowFault = none) (target : SwapTarget) :
    u.askSwap target = (u.withBanks fun b => { b with condition := .swapPending target },
      .plain .ok (u.banks.activeNumber.other.code.setWidth 16)) := by
  rw [State.askSwap, free]; dsimp only; rw [sound]

/-- Settles O39: SWAP and SWAP_AT differ in their target alone. -/
theorem swapsAreValidated : Obligations.SwapsAreValidated := by
  intro s dt q allowed free b valid fits unused both
  have banks : (s.heard dt .uIn).banks = s.banks := State.heard_banks ..
  have heardFree : (s.heard dt .uIn).banks.condition = .free := banks ▸ free
  have asks {f : SwapTarget → State → State} {status : Status} {detail : Word16}
      (does : ∀ target, (s.heard dt .uIn).askSwap target = (f target (s.heard dt .uIn), .plain status detail)) :
      both fun target u => (f target u).answered q status detail :=
    ⟨exec_commandRow (a := .swap) allowed rfl rfl rfl (does _), exec_commandRow (a := .swapAt) allowed rfl rfl rfl (does _)⟩
  have refuses {detail : Word16} (fault : s.shadowFault = some detail) : both fun _ u => u.answered q .invalidBank detail :=
    asks (f := fun _ u => u) fun target => State.askSwap_refused heardFree ((s.heard_shadowFault dt).trans fault) target
  refine ⟨fun short => refuses (State.shadowFault_short short),
    fun k legal short first => refuses (State.shadowFault_names legal short first),
    fun legal short none => asks
      (f := fun target u => { u with banks := { s.banks with condition := .swapPending target } }) fun target => ?_⟩
  have sound := (s.heard_shadowFault dt).trans (State.shadowFault_none legal short none)
  rw [State.askSwap_accepted heardFree sound, State.withBanks, banks]

/-! ### RESTART_LOCK (R129) and SETTINGS (R72, R115, R170) -/

/-- Settles O41: the restart is the lock's own in either mode. -/
theorem restartLockRestarts : Obligations.RestartLockRestarts := by
  intro s dt q allowed
  exact exec_commandRow (a := .restartLock) allowed rfl rfl rfl (congrArg (·, Answer.ok) (State.restartLock_eq _))

theorem Settings.overruns_iff (g : Settings) (b : Bank) : g.overruns b = true ↔ b.length * 512 ≤ g.latency + g.window :=
  decide_eq_true_iff

theorem State.settingsRefused_iff (s : State) (g : Settings) :
    s.settingsRefused g = true ↔ g.source = .line ∧
      ((8 ≤ s.banks.active.length ∧ s.banks.active.length ≤ 1024 ∧ s.banks.active.length * 512 ≤ g.latency + g.window) ∨
        (∃ target, s.banks.condition = .swapPending target) ∧ s.banks.shadow.length * 512 ≤ g.latency + g.window) := by
  rw [State.settingsRefused, Bool.and_eq_true, beq_iff_eq, Bool.or_eq_true, Bool.and_eq_true, Bank.valid_iff, and_assoc]
  cases s.banks.condition <;> simp [Settings.overruns_iff]

/-- Settles O32: a SETTINGS write is refused whole or takes every field. -/
theorem writeSettingsTakesEveryField : Obligations.WriteSettingsTakesEveryField := by
  intro s dt q allowed within pending overruns
  have settings : (s.heard dt .uIn).settings = s.settings := State.heard_settings ..
  have judged (g : Settings) : (s.heard dt .uIn).settingsRefused g = true ↔ overruns g := by
    rw [State.settingsRefused_iff, State.heard_banks]
  refine ⟨fun bad => exec_writeRow (cls := .settings) allowed rfl within nofun rfl ?_,
    fun g read refused => exec_writeRow (cls := .settings) allowed rfl within nofun rfl ?_,
    fun g read passed => ⟨exec_writeRow (cls := .settings) allowed rfl within nofun rfl ?_, ?_⟩⟩
  · dsimp only [State.executeWrite]
    rw [State.doWriteSettings, bad]
  · dsimp only [State.executeWrite]
    rw [State.doWriteSettings, read]
    exact if_pos ((judged g).mpr refused)
  · dsimp only [State.executeWrite]
    rw [State.doWriteSettings, read]
    dsimp only
    rw [if_neg (mt (judged g).mp passed), Answer.ofChange_iff bne_iff_ne, settings, State.restartLock_eq]
  · obtain ⟨-, -, -, -, -, -, -, mask, -⟩ := (Settings.ofData_spec q.data).2 g read
    exact mask 0 (by decide)

end Sys2Proof.Machine
end
section
/-! The lease operations and RESET_FULL (R173, R177 to R182). -/

namespace Sys2Proof.Machine

/-! ### Lease operations (R177) -/

/-- A unicast LEASE request, from what the Edit Lease does with it. -/
theorem exec_leaseRow {s : State} {q : Request} (taken : s.taken q) (alone : q.dest ≠ 127#7) {i : Instr} {dt : Nat} {o : LeaseOperation}
    {f : State → State} {status : Status} {detail : Word16}
    (row : exec i s = .next (s.requestArrival dt (.lease o) q s.straps))
    (does : (s.heard dt .uIn).executeLease o q = (f (s.heard dt .uIn), .plain status detail)) :
    exec i s = .next (s.carried dt 3 o.code q fun u => (f u).answered q status detail) := by
  have passes (u : State) : u.refusalOf (decide (q.dest = 127#7)) (.lease o) q = none := by
    rw [decide_eq_false alone]; rfl
  exact exec_of_executed
    (row.trans (congrArg Host.Outcome.next (s.requestArrival_executed dt (.lease o) q s.straps taken fun u _ => passes u))) does

section Lease

variable {u : State} {q : Request}

theorem State.doAcquire_free (free : u.lease.state = .free) : u.doAcquire q = (u.granted q.manager, .plain .ok (u.lease.epoch + 1)) := by
  rw [State.doAcquire, free]; rfl

theorem State.doClaim_free (free : u.lease.state = .free) : u.doClaim q = (u.granted q.manager, .plain .ok (u.lease.epoch + 1)) := by
  rw [State.doClaim, free]; rfl

theorem State.doAcquire_holder (held : u.lease.state = .held) (holder : u.lease.holder = some q.manager) :
    u.doAcquire q = (u, .plain .noChange 0) := by
  simp [State.doAcquire, Lease.heldBy, held, holder, Answer.noChange]

theorem State.doClaim_holder (held : u.lease.state = .held) (holder : u.lease.holder = some q.manager) :
    u.doClaim q = (u, .plain .badValue 0) := by
  simp [State.doClaim, Lease.heldBy, held, holder]

section Other

variable {h : Manager} (held : u.lease.state = .held) (holder : u.lease.holder = some h) (other : h ≠ q.manager)
include held holder

theorem Lease.holderDetail_held : u.lease.holderDetail = h.setWidth 16 := by
  simp [Lease.holderDetail, held, holder]

include other

theorem State.doAcquire_other : u.doAcquire q = (u, .plain .notHolder (h.setWidth 16)) := by
  simp [State.doAcquire, Lease.heldBy, Lease.holderDetail, held, holder, other]

/-- A CLAIM of another manager's grant looks at the claimant. -/
theorem State.doClaim_other :
    u.doClaim q = match u.lease.claimant with
      | none => ((u.setLease (u.lease.claimed q.manager u.settings.claimGrace u.now)).offerEvent .claimRaised
          (some (q.manager.setWidth 8)) (some (h.setWidth 16)), .plain .ok 0)
      | some c => if c = q.manager then (u, .plain .noChange 0) else (u, .plain .claimPending (c.setWidth 16)) := by
  have unheld : u.lease.heldBy q.manager = false := by simp [Lease.heldBy, held, holder, other]
  rw [State.doClaim, held]
  dsimp only
  rw [unheld, Lease.holderDetail_held held holder]
  rfl

end Other

theorem State.doRenew_granted (passed : u.lease.refusal q.manager q.epoch true = none) :
    u.doRenew q = ({ u with lease := { u.lease with countdown := some u.settings.leaseTimeout, base := u.now } }, .plain .ok 0) := by
  rw [State.doRenew, passed]; rfl

theorem State.doLeaseRelease_granted (passed : u.lease.refusal q.manager q.epoch true = none) :
    u.doLeaseRelease q = (u.grantEnds, .plain .ok 0) := by
  rw [State.doLeaseRelease, passed, State.handOver_eq]; rfl

theorem State.doRenew_refused {a : Answer} (refused : u.lease.refusal q.manager q.epoch true = some a) : u.doRenew q = (u, a) := by
  rw [State.doRenew, refused]

theorem State.doLeaseRelease_refused {a : Answer} (refused : u.lease.refusal q.manager q.epoch true = some a) :
    u.doLeaseRelease q = (u, a) := by
  rw [State.doLeaseRelease, refused]

theorem Lease.claimed_eq {l : Lease} {n : Nat} (countdown : l.countdown = some n) (m : Manager) (grace now : Nat) :
    l.claimed m grace now =
      if grace < n then { l with claimant := some m, countdown := some grace, base := now } else { l with claimant := some m } := by
  rw [Lease.claimed, countdown]; rfl

end Lease

/-- Settles O44, by the state of the lease, its holder and its claimant. -/
theorem acquireAndClaim : Obligations.AcquireAndClaim := by
  intro s dt q taken alone answers grants
  have lease : (s.heard dt .uIn).lease = s.lease := State.heard_lease ..
  refine ⟨fun free => ⟨exec_leaseRow (o := .acquire) taken alone rfl ?_, exec_leaseRow (o := .claim) taken alone rfl ?_⟩,
    fun h held holder => ⟨?_,
    fun other => exec_leaseRow (o := .acquire) taken alone rfl (State.doAcquire_other (lease ▸ held) (lease ▸ holder) other),
    fun n other none countdown => exec_leaseRow (o := .claim) taken alone rfl ?_,
    fun other own => exec_leaseRow (o := .claim) taken alone rfl ?_,
    fun c other claimed another => exec_leaseRow (o := .claim) taken alone rfl ?_⟩⟩
  · exact (State.doAcquire_free (lease ▸ free)).trans (by rw [lease])
  · exact (State.doClaim_free (lease ▸ free)).trans (by rw [lease])
  · rintro rfl
    exact ⟨exec_leaseRow (o := .acquire) taken alone rfl (State.doAcquire_holder (lease ▸ held) (lease ▸ holder)),
      exec_leaseRow (o := .claim) taken alone rfl (State.doClaim_holder (lease ▸ held) (lease ▸ holder))⟩
  · refine (State.doClaim_other (lease ▸ held) (lease ▸ holder) other).trans ?_
    rw [lease, none, State.setLease, Lease.claimed_eq countdown, State.heard_settings, State.heard_now]
  · refine (State.doClaim_other (lease ▸ held) (lease ▸ holder) other).trans ?_
    rw [lease, own]
    exact if_pos rfl
  · refine (State.doClaim_other (lease ▸ held) (lease ▸ holder) other).trans ?_
    rw [lease, claimed]
    exact if_neg another

/-- Settles O45: RENEW and RELEASE share the holder and epoch checks. -/
theorem renewAndRelease : Obligations.RenewAndRelease := by
  intro s dt q taken alone answers
  have lease : (s.heard dt .uIn).lease = s.lease := State.heard_lease ..
  have refuses {status : Status} {detail : Word16} (refused : s.lease.refusal q.manager q.epoch true = some (.plain status detail)) :
      answers status detail :=
    ⟨exec_leaseRow (o := .renew) taken alone rfl (State.doRenew_refused (lease ▸ refused)),
      exec_leaseRow (o := .release) taken alone rfl (State.doLeaseRelease_refused (lease ▸ refused))⟩
  refine ⟨fun held holder current => ?_, fun free => refuses (Lease.refusal_free free ..),
    fun h held holder other => refuses (Lease.refusal_other held holder other ..),
    fun held holder old => refuses (Lease.refusal_stale held holder old)⟩
  have passed : (s.heard dt .uIn).lease.refusal q.manager q.epoch true = none := by
    rw [lease]
    simp [Lease.refusal, Lease.heldBy, held, holder, current]
  refine ⟨exec_leaseRow (o := .renew) taken alone rfl ((State.doRenew_granted passed).trans ?_),
    exec_leaseRow (o := .release) taken alone rfl (State.doLeaseRelease_granted passed)⟩
  rw [lease, State.heard_settings, State.heard_now]

/-! ### RESET_FULL (R173) -/

/-- Settles O43: the reset is a restart of every block, and the reply is queued after it. -/
theorem resetFullRestarts : Obligations.ResetFullRestarts := by
  intro s dt q straps allowed
  obtain ⟨taken, permitted, alone⟩ := allowed
  refine congrArg Host.Outcome.next ((s.command_eq dt .resetFull q straps rfl ⟨taken, permitted⟩ (.inr alone)).trans ?_)
  rw [State.carried, if_neg alone]
  dsimp only [State.execute]
  rw [State.restart_eq, State.heard_now, State.heard_pending]
  rfl

end Sys2Proof.Machine
end
section
/-! The gate's own clock on its outputs: boundary, slots, guard and U-out cell times (R2, R78 to R94, R149). -/

namespace Sys2Proof.Machine

/-! ### The boundary (R78, R80, R83) -/

theorem State.mayRun_iff (s : State) : s.mayRun = true ↔ s.mayStart := by
  simp [State.mayRun, State.mayStart, Bank.valid_iff, or_assoc]

theorem filterMap_ite_eq_filter_map {α β : Type} (f : α → β) (p : β → Prop) [DecidablePred p] (l : List α) :
    (l.filterMap fun a => if p (f a) then some (f a) else none) = (l.map f).filter fun b => decide (p b) := by
  induction l with
  | nil => rfl
  | cons a l ih => by_cases holds : p (f a) <;> simp [holds, ih]

theorem State.starting_eq (s : State) :
    s.starting = ((List.range 256).map (BitVec.ofNat 8)).filter fun r => decide ((s.record r).state = .starting) :=
  filterMap_ite_eq_filter_map (BitVec.ofNat 8) (fun r => (s.record r).state = .starting) _

theorem State.fillSlotZero_running {s : State} (running : s.engine = .running) :
    s.fillSlotZero = s.sends (syncCell s.timer.number) .engine := by
  rw [State.fillSlotZero, running]; rfl

theorem State.fillSlotZero_halted {s : State} (halted : s.engine = .halted) : s.fillSlotZero = s.serves := by
  rw [State.fillSlotZero, halted, ← State.servePass_eq]

theorem State.promote_halted {s : State} (halted : s.engine = .halted) : s.promote = s := by
  rw [State.promote, halted]

theorem State.promote_running {s : State} (running : s.engine = .running) :
    s.promote = ({ s with records := mapAll Record.promote s.records } : State).offerEach .streamRunning s.starting := by
  rw [State.promote, running]

theorem exec_cycleBoundary_of_guard {s : State} (released : s.pinHeld = false) (guard : s.timer.position = .guard) :
    exec .cycleBoundary s = .next s.turns.decideEngine.promote.fillSlotZero := by
  refine congrArg Host.Outcome.next ((State.clocked_of_released released _).trans ?_)
  rw [State.boundaryDue, guard, ← State.boundary_eq]

/-- Settles O47, by the engine's decision on the turned cycle. -/
theorem boundaryBeginsTheCycle : Obligations.BoundaryBeginsTheCycle := by
  intro s released guard t
  have run := exec_cycleBoundary_of_guard released guard
  have records : t.records = s.records := (congrArg State.records s.turns_changes :)
  have starting : t.starting = ((List.range 256).map (BitVec.ofNat 8)).filter fun r => decide ((s.record r).state = .starting) := by
    simp only [State.starting_eq, State.record_congr records]
  refine ⟨fun may => ?_, fun mayNot => ?_, fun v next => ?_⟩
  · rw [run, show s.turns.decideEngine = { t with engine := .running } from if_pos ((State.mayRun_iff t).mpr may),
      State.promote_running rfl, State.fillSlotZero_running (by rw [State.offerEach_changes])]
    rw [show ({ t with engine := .running } : State).starting = t.starting from rfl, starting, records]
    refine congrArg (fun number => Host.Outcome.next (State.sends _ (syncCell number) _)) ?_
    rw [State.offerEach_changes]
  · have halts : s.turns.decideEngine = t.halts := (if_neg (mt (State.mayRun_iff t).mp mayNot)).trans t.haltEngine_eq
    rw [run, halts, State.promote_halted t.halts_engine, State.fillSlotZero_halted t.halts_engine]
  · obtain rfl : s.turns.decideEngine.promote.fillSlotZero = v := Host.Outcome.next.inj (run.symm.trans next)
    obtain ⟨⟨f, flight⟩, pin, timer⟩ := State.fillSlotZero_sends s.turns.decideEngine.promote
    have unheld : s.turns.decideEngine.promote.pinHeld = false := by
      rw [State.promote_changes, State.decideEngine_changes, State.turns_changes]; exact released
    have slot : s.turns.decideEngine.promote.timer.position = .slot 0 := by
      rw [State.promote_changes, State.decideEngine_changes, State.turns_changes]; rfl
    exact ⟨f, flight, State.dOutLine_sends _ 0 f (pin.trans unheld) (timer ▸ slot) flight⟩

/-! ### The start of a slot (R2, R48, R82) -/

theorem Timer.slotRuns_iff (t : Timer) (k : Nat) : t.slotRuns k = true ↔ t.runs k := by
  unfold Timer.slotRuns Timer.runs
  rw [Bool.and_eq_true, decide_eq_true_iff]
  refine and_congr_right fun _ => ?_
  cases t.placement with
  | none => simp
  | some T => exact decide_eq_true_iff.trans (by simp [Timer.slotEnd, Config.cellTime])

/-- The next slot starts at its tick: the slot before it ends, and it is filled. -/
theorem exec_slotStart_of_runs {s : State} {k : Nat} (released : s.pinHeld = false) (slot : s.timer.position = .slot k)
    (runs : s.timer.runs (k + 1)) :
    exec .slotStart s = .next ((s.slotEnds.movesTo (s.timer.start + (k + 1) * 512) (.slot (k + 1))).fillSlot (k + 1)) := by
  have next : s.nextSlot = some (k + 1) := by
    rw [State.nextSlot, slot]; exact if_pos ((Timer.slotRuns_iff _ _).mpr runs)
  refine congrArg Host.Outcome.next ((State.clocked_of_released released _).trans ?_)
  rw [State.slotDue, next]
  dsimp only
  rw [State.beginSlot, State.endSlot_eq]
  rfl

section Fill

variable {u : State} {k : Nat} {r : RecordIndex}

theorem State.fillSlot_halted (halted : u.engine = .halted) (k : Nat) : u.fillSlot k = u.serves := by
  rw [State.fillSlot, halted, ← State.servePass_eq]

theorem State.fillSlot_entry (running : u.engine = .running) {e : SlotEntry} (entry : u.banks.active.entry k = e) :
    u.fillSlot k = u.fillByEntry e := by
  rw [State.fillSlot, running, entry]

/-- The cell of a slot that follows the miss policy, as R91 says. -/
theorem State.followPolicy_eq (u : State) (r : RecordIndex) (counts : Bool) : u.followPolicy r counts = u.follows r counts := by
  have same : u.setRecord r (u.record r) = u := by simp [State.setRecord, State.record]
  unfold State.followPolicy State.follows
  generalize u.record r = x at same
  obtain ⟨state, bound, config, misses, last, queue, counters⟩ := x
  dsimp only
  cases config.missPolicy with
  | idleCell => rfl
  | yieldSlot => exact u.servePass_eq
  | repeatLast =>
    cases last with
    | none => rfl
    | some v =>
      cases counts with
      | true => rfl
      | false => exact congrArg (State.sendLast · r v) same.symm

theorem State.fillReserved_policy (rests : (u.record r).state ∈ [.idle, .filling, .starting, .paused]) :
    u.fillReserved r = u.follows r false := by
  rw [← State.followPolicy_eq, State.fillReserved]
  simp only [List.mem_cons, List.not_mem_nil, or_false] at rests
  rcases rests with state | state | state | state <;> rw [state]

theorem State.fillReserved_faulted (faulted : (u.record r).state = .faulted) :
    u.fillReserved r = if (u.record r).config.missPolicy = .yieldSlot then u.serves else u.sends idleCell .engine := by
  rw [State.fillReserved, faulted, State.servePass_eq]
  cases (u.record r).config.missPolicy <;> rfl

end Fill

/-- Settles O48, by the engine, the entry and the record's state. -/
theorem slotsWithoutJudgement : Obligations.SlotsWithoutJudgement := by
  intro s k released slot runs u e
  have run : exec .slotStart s = .next (u.fillSlot (k + 1)) := exec_slotStart_of_runs released slot runs
  have fills (running : s.engine = .running) {named : SlotEntry} (entry : e = named) :
      exec .slotStart s = .next (u.fillByEntry named) := by rw [run, State.fillSlot_entry (u := u) running entry]
  refine ⟨fun halted => ?_, fun running entry => ?_, fun running entry => fills running entry,
    fun r running entry => ⟨fun rests => ?_, fun faulted => ?_⟩, fun t next => ?_⟩
  · rw [run, State.fillSlot_halted (u := u) halted]
  · rw [fills running entry, State.fillByEntry, State.servePass_eq]
  · exact (fills running entry).trans (congrArg Host.Outcome.next (State.fillReserved_policy rests))
  · exact (fills running entry).trans (congrArg Host.Outcome.next (State.fillReserved_faulted faulted))
  · obtain rfl : u.fillSlot (k + 1) = t := Host.Outcome.next.inj (run.symm.trans next)
    obtain ⟨⟨f, flight⟩, pin, timer⟩ := u.fillSlot_sends (k + 1)
    exact ⟨f, flight, State.dOutLine_sends _ (k + 1) f (pin.trans released) (congrArg Timer.position timer) flight⟩

/-! ### The slot of a RUNNING record (R31, R86 to R94) -/

theorem dropWhile_eq_drop_takeWhile {α : Type} (p : α → Bool) (l : List α) : l.dropWhile p = l.drop (l.takeWhile p).length := by
  induction l with
  | nil => rfl
  | cons a l ih => by_cases holds : p a <;> simp [holds, ih]

/-- The stale heads go, counted late and freed (R87). -/
theorem State.purge_eq (u : State) (r : RecordIndex) :
    u.purge r = ({ u with free := u.free + (u.purged (u.record r)).2 } : State).setRecord r (u.purged (u.record r)).1 := by
  unfold State.purge
  dsimp only
  rw [dropWhile_eq_drop_takeWhile]
  rfl

theorem Line.levelOf_eq (l : Line) (p : Payload) :
    l.levelOf p = if p.getMsbD l.bitIndex = (l.polarity == .direct) then .high else .low := by
  unfold Line.levelOf
  dsimp only
  cases l.polarity <;> cases p.getMsbD l.bitIndex <;> rfl

/-- The lines of a record staged, as R105 says. -/
theorem State.stage_eq (u : State) (r : RecordIndex) (p : Payload) : u.stage r p = u.stages r p := by
  unfold State.stage State.stages State.eachLine
  rw [mapAll_congr fun l => by rw [Line.stageFor, Line.levelOf_eq]]

theorem State.releaseHead_eq (u : State) {r : RecordIndex} {x : Record} (found : u.record r = x) {c : Cell} {rest : List Cell}
    (queue : x.queue = c :: rest) :
    u.releaseHead r c rest =
      let t := u.setRecord r (x.releases c)
      let flight : Flight :=
        { cell := dataCell (streamOf c) (tagOf c + x.config.retag.setWidth 6) c.payload, source := .record r, buffered := true }
      let sent : State := { t with dOut := some flight }
      match x.config.delivery with
      | .downstream => sent
      | .both => sent.stages r c.payload
      | .localOnly => (({ t with free := t.free + 1 } : State).stages r c.payload).serves := by
  have released : x.release c rest = x.releases c := by rw [Record.releases, queue]; rfl
  unfold State.releaseHead
  dsimp only
  rw [found, released, State.servePass_eq, State.stage_eq, State.stage_eq]
  cases x.config.delivery <;> rfl

theorem State.faultRecord_eq (u : State) (r : RecordIndex) : u.faultRecord r = u.faults r := by
  unfold State.faultRecord State.faults State.flushQueue
  simp only [State.record_setRecord_same, State.setRecord_setRecord, State.eachLine_safeFor]

/-- A miss of a record whose early count has been settled (R90, R91). -/
theorem State.miss_eq (u : State) {r : RecordIndex} {x y : Record} (found : u.record r = x)
    (counted : { x.countMissed with misses := saturate x.misses } = y) :
    u.miss r = if x.config.faultThreshold ≠ 0 ∧ y.misses = x.config.faultThreshold then ((u.setRecord r y).follows r true).faults r
      else (u.setRecord r y).follows r true := by
  subst counted
  unfold State.miss
  dsimp only
  rw [found, State.followPolicy_eq, State.faultRecord_eq]

/-- A slot without a due head is a miss, counted early when a head waits (R88, R90). -/
theorem State.judge_miss (u : State) {r : RecordIndex} {x : Record} {v : State} (purged : u.purge r = v.setRecord r x)
    (number : v.timer.number = u.timer.number) (waits : ∀ c ∈ x.queue.head?, u.distance c ≠ 0) :
    u.judge r = if x.config.faultThreshold ≠ 0 ∧ x.missesSlot.misses = x.config.faultThreshold
      then ((v.setRecord r x.missesSlot).follows r true).faults r else (v.setRecord r x.missesSlot).follows r true := by
  unfold State.judge
  dsimp only
  rw [purged, State.record_setRecord_same]
  cases queue : x.queue with
  | nil =>
    have counted : { x.countMissed with misses := saturate x.misses } = x.missesSlot := by
      simp [Record.missesSlot, Record.countMissed, queue]
    dsimp only
    rw [State.miss_eq _ (State.record_setRecord_same ..) counted, State.setRecord_setRecord]
  | cons c rest =>
    have ahead : ¬tagDistance c (v.setRecord r x).timer.number = 0 := by
      rw [show (v.setRecord r x).timer.number = u.timer.number from number]
      exact waits c (by rw [queue]; rfl)
    have counted : { x.countEarly.countMissed with misses := saturate x.countEarly.misses } = x.missesSlot := by
      simp [Record.missesSlot, Record.countMissed, Record.countEarly, queue]
    dsimp only
    rw [if_neg ahead, State.setRecord_setRecord, State.miss_eq _ (State.record_setRecord_same ..) counted, State.setRecord_setRecord]
    rfl

theorem State.judge_release (u : State) {r : RecordIndex} {x : Record} {v : State} (purged : u.purge r = v.setRecord r x)
    (number : v.timer.number = u.timer.number) {c : Cell} {rest : List Cell} (queue : x.queue = c :: rest) (due : u.distance c = 0) :
    u.judge r = (v.setRecord r x).releaseHead r c rest := by
  unfold State.judge
  dsimp only
  rw [purged, State.record_setRecord_same, queue]
  dsimp only
  rw [if_pos (by rw [show (v.setRecord r x).timer.number = u.timer.number from number]; exact due)]

/-- Settles O49: the purge first, then the head judged by its distance. -/
theorem judgedSlots : Obligations.JudgedSlots := by
  intro s k r released slot runs running entry state u x v y w
  have purged : u.purge r = v.setRecord r x := u.purge_eq r
  have judged : exec .slotStart s = .next (u.judge r) := by
    rw [exec_slotStart_of_runs released slot runs, State.fillSlot_entry (u := u) running entry, State.fillByEntry, State.fillReserved,
      show (u.record r).state = .running from state]
  refine ⟨fun c rest queue due => ?_, fun waits => ?_⟩
  · intro t flight sent
    have taken : exec .slotStart s = .next (_ : State) := judged.trans (congrArg Host.Outcome.next
      ((u.judge_release purged rfl queue due).trans (State.releaseHead_eq _ (State.record_setRecord_same ..) queue)))
    dsimp only at taken
    rw [State.setRecord_setRecord] at taken
    have carries (w : State) (pin : w.pinHeld = s.pinHeld) (slot : w.timer.position = .slot (k + 1)) (out : w.dOut = some flight) :
        w.dOutLine = .sends flight.cell := State.dOutLine_sends w (k + 1) flight (pin.trans released) slot out
    refine ⟨fun delivery => ⟨?_, carries _ rfl rfl rfl⟩, fun delivery => ⟨?_, carries _ rfl rfl rfl⟩, fun delivery => ?_⟩ <;>
    · rw [delivery] at taken
      exact taken
  · have missed := judged.trans (congrArg Host.Outcome.next (u.judge_miss purged rfl waits))
    refine ⟨fun stays => ?_, fun counts reaches => ?_⟩
    · rw [missed, if_neg (by rintro ⟨counts, reaches⟩; exact stays.elim counts (· reaches))]
    · rw [missed, if_pos ⟨counts, reaches⟩]

/-! ### The guard (R2, R6, R106) -/

/-- Settles O50: the end of the last slot applies what was staged. -/
theorem guardEndsTheLastSlot : Obligations.GuardEndsTheLastSlot := by
  intro s k released slot last
  have due : s.guardTick = some (s.timer.start + (k + 1) * 512) := by
    rw [State.guardTick, slot]
    exact if_neg (mt (Timer.slotRuns_iff _ _).mp last)
  let t : State := { s.slotEnds.movesTo (s.timer.start + (k + 1) * 512) .guard with uOut := none }
  refine ⟨t, ?_, rfl, ite_self _, rfl, fun i => (t.pinLevel_shows released i).trans ?_⟩
  · refine congrArg Host.Outcome.next ((State.clocked_of_released released _).trans ?_)
    rw [State.guardDue, due]
    dsimp only
    rw [State.beginGuard, State.endSlot_eq]
    rfl
  · have applied : t.lines[i.val] = (s.lines[i.val]).applies := getElem_mapAll ..
    exact (congrArg Line.shows applied).trans (Line.applies_shows _)

/-! ### U-out cell times (R131, R149, R150, R155) -/

theorem exec_cellTimeStart_of_none {s : State} (released : s.pinHeld = false) (begun : s.nextCellTime = none) :
    exec .cellTimeStart s = .next s := by
  refine congrArg Host.Outcome.next ((State.clocked_of_released released _).trans ?_)
  rw [State.cellTimeDue, begun]

theorem exec_cellTimeStart_of_some {s : State} (released : s.pinHeld = false) {k : Nat} (next : s.nextCellTime = some k) :
    exec .cellTimeStart s = .next (s.beginCellTime k) := by
  refine congrArg Host.Outcome.next ((State.clocked_of_released released _).trans ?_)
  rw [State.cellTimeDue, next]

theorem State.marks_iff (u : State) (k : Nat) : u.marks k = true ↔ k = 0 ∧ u.settings.source = .loc ∧ u.settings.mark = true := by
  simp [State.marks, and_assoc]

section Arbiter

variable {u : State}

theorem State.arbitrate_none (through : u.through = []) (replies : u.replies = []) (events : u.events = []) :
    u.arbitrate = { u with uOut := some idleCell } := by
  simp [State.arbitrate, State.ownCandidate, through, replies, events, State.sendOwn, State.sendUp]

theorem State.arbitrate_through {c : Cell} {rest : List Cell} (through : u.through = c :: rest)
    (turn : (u.replies = [] ∧ u.events = []) ∨ u.lastWinner = .own) :
    u.arbitrate = { u with uOut := some c, through := rest, lastWinner := .through } := by
  rw [State.arbitrate, through]
  rcases turn with ⟨replies, events⟩ | turn
  · simp [State.ownCandidate, replies, events, State.sendThrough, State.sendUp]
  · rw [turn]
    cases u.ownCandidate <;> rfl

/-- The own candidate is sent when it is there and has its turn or no rival. -/
theorem State.arbitrate_own (own : u.ownCandidate ≠ .none) (turn : u.through = [] ∨ u.lastWinner = .through) :
    u.arbitrate = u.sendOwn u.ownCandidate := by
  rw [State.arbitrate]
  cases through : u.through with
  | nil => rfl
  | cons c rest =>
    have wins : u.lastWinner = .through := turn.resolve_left (by rw [through]; exact List.cons_ne_nil c rest)
    cases candidate : u.ownCandidate with
    | none => exact absurd candidate own
    | reply | events => dsimp only; rw [wins]

theorem State.arbitrate_reply {r : Reply} {rest : List Reply} (replies : u.replies = r :: rest)
    (turn : u.through = [] ∨ u.lastWinner = .through) :
    u.arbitrate = { u with uOut := some (replyCell u.nodeAddress r), replies := rest, lastWinner := .own } := by
  have own : u.ownCandidate = .reply r rest := by rw [State.ownCandidate, replies]
  rw [State.arbitrate_own (own ▸ nofun) turn, own]
  rfl

theorem State.arbitrate_events (replies : u.replies = []) (events : u.events ≠ []) (turn : u.through = [] ∨ u.lastWinner = .through) :
    u.arbitrate = { u with uOut := some (eventCell u.nodeAddress u.lost (u.events.take 4)), events := u.events.drop 4, lost := false,
                           lastWinner := .own } := by
  have own : u.ownCandidate = .events := by
    rw [State.ownCandidate, replies]
    exact if_neg (by simpa using events)
  rw [State.arbitrate_own (own ▸ nofun) turn, own]
  rfl

end Arbiter

/-- Settles O51: the mark, else the arbiter's choice. -/
theorem cellTimesCarryTheChosenCell : Obligations.CellTimesCarryTheChosenCell := by
  intro s released
  refine ⟨fun guard => exec_cellTimeStart_of_none released (by rw [State.nextCellTime, guard]), fun k slot =>
    ⟨fun begun => exec_cellTimeStart_of_none released (by rw [State.nextCellTime, slot]; exact if_neg (Nat.not_le.mpr begun)), ?_⟩⟩
  intro begins u mark evt
  have next : s.nextCellTime = some k := by rw [State.nextCellTime, slot]; exact if_pos begins
  have run : exec .cellTimeStart s = .next (u.fillCellTime k) := exec_cellTimeStart_of_some released next
  have chooses (unmarked : ¬mark) : exec .cellTimeStart s = .next u.arbitrate := by
    rw [run, State.fillCellTime, if_neg (mt (State.marks_iff u k).mp unmarked)]
  refine ⟨fun marked => ?_, fun unmarked through replies events => ?_, fun c rest unmarked through turn => ?_,
    fun r rest unmarked replies turn => ?_, fun unmarked replies events turn => ?_, fun t sent => ?_⟩
  · rw [run, State.fillCellTime, if_pos ((State.marks_iff u k).mpr marked)]; rfl
  · exact (chooses unmarked).trans (congrArg Host.Outcome.next (State.arbitrate_none through replies events))
  · exact (chooses unmarked).trans (congrArg Host.Outcome.next (State.arbitrate_through through turn))
  · exact (chooses unmarked).trans (congrArg Host.Outcome.next (State.arbitrate_reply replies turn))
  · exact (chooses unmarked).trans (congrArg Host.Outcome.next (State.arbitrate_events replies events turn))
  · obtain rfl : u.fillCellTime k = t := Host.Outcome.next.inj (run.symm.trans sent)
    obtain ⟨c, flight⟩ := u.fillCellTime_sends k
    exact ⟨c, flight, State.uOutLine_sends _ c flight⟩

end Sys2Proof.Machine
end
